-- ==== Sys2Proof/Word.lean ====
section
/-!
DEFINITION. The machine's words and the names of its operands: bytes and 16-bit words (00_scope.md
section 7), and the closed operand enumerations of 30_encoding.md R97 with R10, R14 and R80.
-/

namespace Sys2Proof

/-- A `u8`: register contents, memory bytes, immediates d8. -/
abbrev Byte := BitVec 8

/-- A `u16`: addresses, PC, SP, register pairs, immediates d16 and a16. -/
abbrev Word := BitVec 16

/-- The seven 8-bit registers (R10). -/
inductive Reg8 where
  | B | C | D | E | H | L | A
deriving DecidableEq, Repr

/-- `Operand8` of R97: a register, or HLI, "the byte addressed indirectly through HL". -/
inductive Operand8 where
  | reg (r : Reg8)
  | hli
deriving DecidableEq, Repr

/-- `Source8` of R97: an 8-bit operand, or D8, the immediate next byte (byte loads only). -/
inductive Source8 where
  | operand (o : Operand8)
  | d8
deriving DecidableEq, Repr

/-- `Pair16` of R97: the targets of the word loads. -/
inductive Pair16 where
  | BC | DE | HL | SP
deriving DecidableEq, Repr

/-- The combined register pairs of R14, views of the register file. -/
inductive PairView where
  | AF | BC | DE | HL
deriving DecidableEq, Repr

/-- `StoreDest` of R97: the six addresses a store of A can go to. -/
inductive StoreDest where
  | bci | dei | hliInc | hld | a16 | highC
deriving DecidableEq, Repr

/-- The eight arithmetic and logic operations, in the order of R85. -/
inductive AluOp where
  | add | adc | sub | sbc | and | xor | or | cp
deriving DecidableEq, Repr

/-- The decoder's instruction value (R97): "a closed tagged union over opcode families". It is what
a byte decodes to, before the immediate bytes are attached. -/
inductive Value where
  | alu (op : AluOp) (s : Operand8)
  | ldByte (target : Operand8) (source : Source8)
  | ldWord (rr : Pair16)
  | stA (dest : StoreDest)
  | bit (index : Nat) (s : Operand8)
deriving DecidableEq, Repr

/-- The five instruction formats of R80. -/
inductive Format where
  | op | opD8 | opD16 | opPad | cbOp
deriving DecidableEq, Repr

end Sys2Proof
end

