-- ==== Sys2Proof/Machine/Bits.lean ====
section
/-!
DEFINITION. The bit-field and byte-order helpers (00_scope.md section 7): concatenation of two bytes,
the halves of a word, the low nibble, and the fields of an opcode byte.
-/

namespace Sys2Proof

/-- `(hi, lo)` as one 16-bit value, `hi` the high byte. -/
def join (hi lo : Byte) : Word :=
  hi ++ lo

/-- `w[15:8]`. -/
def hiByte (w : Word) : Byte :=
  w.extractLsb' 8 8

/-- `w[7:0]`. -/
def loByte (w : Word) : Byte :=
  w.extractLsb' 0 8

/-- The low nibble `v & 0x0F` as an integer, for the half-carry rules (R131 to R134). -/
def lowNibble (v : Byte) : Nat :=
  (v &&& 0x0F#8).toNat

/-- The carry-in of ADC and SBC as an integer: 1 if the flag is set, else 0 (R132, R134). -/
def carryIn (c : Bool) : Nat :=
  if c then 1 else 0

/-- Field `x`, bits 7 and 6 of an opcode byte (R81). -/
def fieldX (b : Byte) : Nat :=
  b.toNat / 64

/-- Field `y`, bits 5 to 3 (R81). -/
def fieldY (b : Byte) : Nat :=
  b.toNat / 8 % 8

/-- Field `z`, bits 2 to 0 (R81). -/
def fieldZ (b : Byte) : Nat :=
  b.toNat % 8

/-- Field `p`, bits 5 and 4 (R81). -/
def fieldP (b : Byte) : Nat :=
  b.toNat / 16 % 4

/-- Field `q`, bit 3 (R81). -/
def fieldQ (b : Byte) : Nat :=
  b.toNat / 8 % 2

end Sys2Proof
end

