-- ==== Sys2Proof/Config.lean ====
section
/-!
DEFINITION. What this hardware fixes once (00_scope.md section 6): sizes, the prefix byte, the reset
values the spec decides, and the types of its named parameters. The parameters' values, which a test
could show wrong, stand in Machine/Params.lean. The spec leaves no instruction's result open, so
there is no free value here.
-/

namespace Sys2Proof

/-- `ECHO_WRITE_POLICY` of R54: what a write to Echo RAM does. -/
inductive EchoWritePolicy where
  | unmappedWrite | writeThrough | noOp
deriving DecidableEq, Repr

/-- The eleven non-overlay regions of R41; every address lies in exactly one (R42). -/
inductive Region where
  | romBank0 | romBankN | videoRam | cartridgeRam | internalRam | echoRam
  | oam | unused | io | zeroPage | interruptEnable
deriving DecidableEq, Repr

namespace Config

/-- `BOOT_SIZE`: the overlay image is exactly 256 bytes (R4, R222). -/
def bootSize : Nat := 256

/-- `CART_MIN_SIZE`: two ROM banks of 16384 bytes (R49, R222). -/
def cartMinSize : Nat := 32768

/-- Bytes of cartridge RAM (R41). -/
abbrev cramSize : Nat := 8192

/-- Bytes of internal RAM (R41). -/
abbrev iramSize : Nat := 8192

/-- Bytes of the zero page (R41). -/
abbrev zramSize : Nat := 127

/-- `PC_RESET` (R24, the spec's decision D7). DESIGN CHOICE, log entry 5. -/
def pcReset : Word := 0x0000#16

/-- `SP_RESET`, the spec's default (R24, D8). DESIGN CHOICE, log entry 5. -/
def spReset : Word := 0x0000#16

end Config

end Sys2Proof
end

