-- ==== Sys2Proof/Machine/State.lean ====
section
/-!
DEFINITION. The machine's state as plain data (10_state.md, 20_memory.md), the outcomes' reason types,
and the state after reset (R24, R250).
-/

namespace Sys2Proof.Machine

/-- Stored bytes by address: addresses strictly rising, and no entry equal to what an unlisted address
reads as (`Memory.wf` in Machine/Ops.lean). -/
abbrev Memory := List Host.Cell

/-- The flags register: "four named boolean bits" (R11). The packed byte of R12 is a view. -/
structure Flags where
  z : Bool
  n : Bool
  h : Bool
  c : Bool
deriving DecidableEq, Repr

/-- The two step-time conditions (60_exceptions.md R220, R223, R224). -/
inductive Condition where
  /-- No table entry for the byte looked up; `prefixed` says which table (R223). -/
  | illegalOpcode (byte : Byte) (prefixed : Bool)
  /-- A write to a region the core does not back (R224). -/
  | unmappedWrite (addr : Word) (value : Byte)
deriving DecidableEq, Repr

/-- The run state (R20). -/
inductive RunState where
  | running
  | halted (cond : Condition)
deriving DecidableEq, Repr

/-- What a step hands back to the host (R5): a cycle count or a condition. `nothing` before any step. -/
inductive StepReport where
  | nothing
  | elapsed (cycles : Nat)
  | condition (cond : Condition)
deriving DecidableEq, Repr

/-- Reasons a step stops with no next state: there are none. Every read is total (R43), every
instruction has an effect on every state (R113), and both step-time conditions have one that the spec
gives in full (R223, R224: `run` becomes `Halted`), so each is a next state (log entry 7). -/
inductive Fault where
deriving DecidableEq, Repr

/-- Reasons there is no machine, or no meaning. -/
inductive Refusal where
  /-- An arm of `exec` without a meaning; no arm is left so. Safe: nothing follows it. -/
  | notModelled (mnemonic : String)
  /-- `InvalidImageSize` (R222), raised by `construct` only: no machine exists. Safe: nothing follows it. -/
  | invalidImageSize
deriving DecidableEq, Repr

/-- All the state the spec gives the machine. -/
structure State where
  /-- The accumulator (R10). -/
  a : Byte
  /-- General register B (R10). -/
  b : Byte
  /-- General register C (R10). -/
  c : Byte
  /-- General register D (R10). -/
  d : Byte
  /-- General register E (R10). -/
  e : Byte
  /-- General register H (R10). -/
  h : Byte
  /-- General register L (R10). -/
  l : Byte
  /-- The flags (R11). -/
  flags : Flags
  /-- The program counter (R16). -/
  pc : Word
  /-- The stack pointer (R19). -/
  sp : Word
  /-- The run state (R20). -/
  run : RunState
  /-- `overlay_enabled` (R21). -/
  overlayEnabled : Bool
  /-- The boot overlay image, absent if none was supplied; keyed 0 to 255 (R49, log entry 6). -/
  boot : Option Memory
  /-- The stored bytes by bus address: ROM banks 0 and N from the cartridge image (R49, log entry 6),
  cartridge RAM, internal RAM and the zero page (R41). -/
  mem : Memory
  /-- The count the last step returned, `none` if it returned none: an output that no rule reads
  (R110, R262, log entry 9). -/
  cycles : Option Nat
deriving DecidableEq, Repr

/-- The outcome of an instruction or a step. -/
abbrev Result := Host.Outcome State Fault Refusal

/-- The machine after construction with no overlay image, an all-zero cartridge image and all-zero RAM
(R24, R250): what the spec leaves to the construction arguments is log entries 3, 4 and 5. -/
def State.reset : State where
  a := 0x00#8
  b := 0x00#8
  c := 0x00#8
  d := 0x00#8
  e := 0x00#8
  h := 0x00#8
  l := 0x00#8
  flags := ⟨false, false, false, false⟩
  pc := Config.pcReset
  sp := Config.spReset
  run := .running
  overlayEnabled := false
  boot := none
  mem := []
  cycles := none

end Sys2Proof.Machine
end

