-- ==== Sys2Proof/Machine/Flags.lean ====
section
/-!
DEFINITION. The packed flags byte (10_state.md R12, R13) and every flag computation: the eight operations
of 41_alu.md and the bit test of 45_bit.md. Sums and comparisons are on integers, so none wraps.
-/

namespace Sys2Proof.Machine

/-- `to_byte` (R12): bit 7 zero, bit 6 subtract, bit 5 half-carry, bit 4 carry, bits 3 to 0 zero. -/
def Flags.toByte (f : Flags) : Byte :=
  BitVec.ofNat 8 (f.z.toNat * 0x80 + f.n.toNat * 0x40 + f.h.toNat * 0x20 + f.c.toNat * 0x10)

/-- `from_byte` (R12): bits 3 to 0 are ignored. -/
def Flags.fromByte (v : Byte) : Flags :=
  ⟨v.getLsbD 7, v.getLsbD 6, v.getLsbD 5, v.getLsbD 4⟩

/-- `clear` (R13). -/
def Flags.clear : Flags :=
  ⟨false, false, false, false⟩

/-- The result byte and the flags of an arithmetic or logic operation. -/
structure AluResult where
  res : Byte
  flags : Flags
deriving DecidableEq, Repr

/-- ADD (R131). -/
def aluAdd (a v : Byte) : AluResult :=
  let sum := a.toNat + v.toNat
  let res := BitVec.ofNat 8 sum
  ⟨res, ⟨res == 0#8, false, decide (lowNibble a + lowNibble v > 0x0F), decide (sum > 0xFF)⟩⟩

/-- ADC (R132). -/
def aluAdc (a v : Byte) (c : Bool) : AluResult :=
  let sum := a.toNat + v.toNat + carryIn c
  let res := BitVec.ofNat 8 sum
  ⟨res, ⟨res == 0#8, false, decide (lowNibble a + lowNibble v + carryIn c > 0x0F), decide (sum > 0xFF)⟩⟩

/-- SUB (R133). -/
def aluSub (a v : Byte) : AluResult :=
  let res := a - v
  ⟨res, ⟨res == 0#8, true, decide (lowNibble a < lowNibble v), decide (a.toNat < v.toNat)⟩⟩

/-- SBC (R134): the right-hand sides of the comparisons are integers, up to 16 and 256. -/
def aluSbc (a v : Byte) (c : Bool) : AluResult :=
  let res := a - v - BitVec.ofNat 8 (carryIn c)
  ⟨res, ⟨res == 0#8, true, decide (lowNibble a < lowNibble v + carryIn c),
    decide (a.toNat < v.toNat + carryIn c)⟩⟩

/-- AND (R135). -/
def aluAnd (a v : Byte) : AluResult :=
  let res := a &&& v
  ⟨res, ⟨res == 0#8, false, true, false⟩⟩

/-- XOR (R136): the zero flag is from the result (D21, log entry 23). -/
def aluXor (a v : Byte) : AluResult :=
  let res := a ^^^ v
  ⟨res, ⟨res == 0#8, false, false, false⟩⟩

/-- OR (R137). -/
def aluOr (a v : Byte) : AluResult :=
  let res := a ||| v
  ⟨res, ⟨res == 0#8, false, false, false⟩⟩

/-- CP (R138): "identical flag computation to SUB"; its result is for the zero flag only. -/
def aluCp (a v : Byte) : AluResult :=
  let res := a - v
  ⟨res, ⟨res == 0#8, true, decide (lowNibble a < lowNibble v), decide (a.toNat < v.toNat)⟩⟩

/-- The operation of R85 applied to the accumulator, the operand and the carry flag on entry. -/
def aluCompute (op : AluOp) (a v : Byte) (c : Bool) : AluResult :=
  match op with
  | .add => aluAdd a v
  | .adc => aluAdc a v c
  | .sub => aluSub a v
  | .sbc => aluSbc a v c
  | .and => aluAnd a v
  | .xor => aluXor a v
  | .or => aluOr a v
  | .cp => aluCp a v

/-- BIT (R211, R212): z is set when the bit is clear (D6, log entry 19); c keeps its value. -/
def bitFlags (v : Byte) (index : Nat) (old : Flags) : Flags :=
  ⟨!v.getLsbD index, false, true, old.c⟩

end Sys2Proof.Machine
end

