-- ==== Sys2Proof/Machine/Params.lean ====
section
/-!
DEFINITION. The values of the spec's named parameters (00_scope.md section 6, 92_eei_decisions.md).
-/

namespace Sys2Proof.Machine.Params

/-- `ECHO_WRITE_POLICY`: the spec's choice among the three (R54, D11; log entry 11). -/
def echoWritePolicy : EchoWritePolicy := .unmappedWrite

/-- `COLLAB_READ_VALUE`: what Video RAM, OAM, the I/O range and 0xFFFF read as (R46, D13; log entry 12). -/
def collabReadValue : Byte := 0x00#8

/-- `HIGH_PAGE_STORE_LEN`: the PC advance of LD (C),A (R98, R196, D18; log entry 17). -/
def highPageStoreLen : Nat := 2

/-- `BIT_CYCLES_REG` (R211, D5; log entry 19). -/
def bitCyclesReg : Nat := 8

/-- `BIT_CYCLES_HLI` (R212, D5; log entry 19). -/
def bitCyclesHli : Nat := 12

/-- What a byte of RAM or of an image that the state does not list reads as. DESIGN CHOICE, log entry 3. -/
def unlistedByte : Byte := 0x00#8

end Sys2Proof.Machine.Params
end

