-- ==== Sys2Proof/Machine/Ops.lean ====
section
/-!
DEFINITION. The named operations: stored bytes, the address map, the bus read and write (20_memory.md),
register access (10_state.md), raising a condition (60_exceptions.md) and the PC advance (40_step_cycle.md).
-/

namespace Sys2Proof.Machine

/-! ### Stored bytes -/

/-- The stored byte at a key. -/
def Memory.read : Memory → Nat → Byte
  | [], _ => Params.unlistedByte
  | (k, v) :: m, a => if a = k then v else Memory.read m a

/-- Store a byte at a key, keeping the canonical form: storing the unlisted byte removes the entry. -/
def Memory.write : Memory → Nat → Byte → Memory
  | [], a, v => if v = Params.unlistedByte then [] else [(a, v)]
  | (k, w) :: m, a, v =>
    if a < k then
      if v = Params.unlistedByte then (k, w) :: m else (a, v) :: (k, w) :: m
    else if a = k then
      if v = Params.unlistedByte then m else (a, v) :: m
    else (k, w) :: Memory.write m a v

/-- The canonical form. -/
abbrev Memory.wf (m : Memory) : Prop :=
  m.Pairwise (fun x y => x.1 < y.1) ∧ ∀ x ∈ m, x.2 ≠ Params.unlistedByte

/-! ### The address map -/

/-- The region of an address, by range comparison on the address alone (R41, R42). -/
def regionOf (a : Word) : Region :=
  if a.toNat ≤ 0x3FFF then .romBank0
  else if a.toNat ≤ 0x7FFF then .romBankN
  else if a.toNat ≤ 0x9FFF then .videoRam
  else if a.toNat ≤ 0xBFFF then .cartridgeRam
  else if a.toNat ≤ 0xDFFF then .internalRam
  else if a.toNat ≤ 0xFDFF then .echoRam
  else if a.toNat ≤ 0xFE9F then .oam
  else if a.toNat ≤ 0xFEFF then .unused
  else if a.toNat ≤ 0xFF7F then .io
  else if a.toNat ≤ 0xFFFE then .zeroPage
  else .interruptEnable

/-- The internal RAM address that an Echo RAM address mirrors (R45, D20; log entry 14). -/
def echoTarget (a : Word) : Word :=
  a - 0x2000#16

/-- The address of the storage behind an address: an Echo RAM address has that of its mirror (R45). -/
def cellOf (a : Word) : Word :=
  if regionOf a = .echoRam then echoTarget a else a

/-- The regions `mem` holds: the two ROM banks and the three RAM buffers. -/
def isStored : Region → Bool
  | .romBank0 | .romBankN | .cartridgeRam | .internalRam | .zeroPage => true
  | .videoRam | .echoRam | .oam | .unused | .io | .interruptEnable => false

/-! ### Bus read -/

/-- The overlay image when it shadows an address: enabled, and the address 0x0000 to 0x00FF (R44). An
overlay that is enabled without an image shadows nothing; no run reaches that (log entry 16). -/
def overlayAt (s : State) (a : Word) : Option Memory :=
  if s.overlayEnabled = true ∧ a.toNat ≤ 0x00FF then s.boot else none

/-- `MemRead(a, 1)` (R43): total, without side effect (R48). -/
def busRead (s : State) (a : Word) : Byte :=
  match overlayAt s a with
  | some image => Memory.read image a.toNat
  | none =>
    match regionOf a with
    | .romBank0 | .romBankN | .cartridgeRam | .internalRam | .zeroPage => Memory.read s.mem a.toNat
    | .echoRam => Memory.read s.mem (echoTarget a).toNat
    | .unused => 0x00#8
    | .videoRam | .oam | .io | .interruptEnable => Params.collabReadValue

/-! ### Bus write -/

/-- Replace the stored bytes. -/
def setMem (m : Memory) (s : State) : State :=
  { s with mem := m }

/-- Store a byte behind an address (R51). -/
def storeByte (a : Word) (v : Byte) (s : State) : State :=
  setMem (Memory.write s.mem a.toNat v) s

/-- `echo_write` of R54 under a policy. -/
def echoWrite (policy : EchoWritePolicy) (a : Word) (v : Byte) (s : State) : Except Condition State :=
  match policy with
  | .unmappedWrite => .error (.unmappedWrite a v)
  | .writeThrough => .ok (storeByte (echoTarget a) v s)
  | .noOp => .ok s

/-- `MemWrite(a, 1, v)` (R50) under an Echo RAM policy: ROM and overlay (R52), the unused range (R61) and
the placeholders (R62) take the write and keep nothing; 0xFFFF raises the condition (R53). -/
def busWriteUnder (policy : EchoWritePolicy) (a : Word) (v : Byte) (s : State) : Except Condition State :=
  match regionOf a with
  | .romBank0 | .romBankN => .ok s
  | .videoRam | .oam | .io => .ok s
  | .unused => .ok s
  | .cartridgeRam | .internalRam | .zeroPage => .ok (storeByte a v s)
  | .echoRam => echoWrite policy a v s
  | .interruptEnable => .error (.unmappedWrite a v)

/-- `MemWrite(a, 1, v)` of this hardware. -/
def busWrite (a : Word) (v : Byte) (s : State) : Except Condition State :=
  busWriteUnder Params.echoWritePolicy a v s

/-! ### Registers -/

/-- Read an 8-bit register (R10). -/
def getReg : Reg8 → State → Byte
  | .A, s => s.a
  | .B, s => s.b
  | .C, s => s.c
  | .D, s => s.d
  | .E, s => s.e
  | .H, s => s.h
  | .L, s => s.l

/-- Write an 8-bit register (R10). -/
def setReg (r : Reg8) (v : Byte) (s : State) : State :=
  match r with
  | .A => { s with a := v }
  | .B => { s with b := v }
  | .C => { s with c := v }
  | .D => { s with d := v }
  | .E => { s with e := v }
  | .H => { s with h := v }
  | .L => { s with l := v }

/-- Write all four flags (R11). -/
def setFlags (f : Flags) (s : State) : State :=
  { s with flags := f }

/-- Write SP (R19). -/
def setSp (w : Word) (s : State) : State :=
  { s with sp := w }

/-! ### The end of an instruction -/

/-- A successful instruction's end: `next_pc = (pc + length) mod 65536` and the cycle count it returns
(R116, R117). -/
def advance (length cycles : Nat) (s : State) : State :=
  { s with pc := s.pc + BitVec.ofNat 16 length, cycles := some cycles }

/-- Take a step-time condition (R223, R224, R225): the core halts where it is, everything else as it was
when the step began, and no count is returned. There is no return from it (R226). -/
def raise (cond : Condition) (s : State) : State :=
  { s with run := .halted cond, cycles := none }

/-- A step request to a halted core (R119): no state changes, and `run` still reports the condition. -/
def haltedStep (s : State) : Result :=
  .next s

/-- What the last step handed back (R5, R110). -/
def State.report (s : State) : StepReport :=
  match s.run with
  | .halted cond => .condition cond
  | .running =>
    match s.cycles with
    | some n => .elapsed n
    | none => .nothing

/-- A write, then the rest of the instruction; if the write raises a condition the rest does not happen
and the state is as it was when the step began (R118, R190). -/
def finish (written : Except Condition State) (rest : State → State) (s : State) : Result :=
  match written with
  | .ok t => .next (rest t)
  | .error cond => .next (raise cond s)

/-- An instruction that makes one bus write and then `rest`. -/
def execStore (a : Word) (v : Byte) (rest : State → State) (s : State) : Result :=
  finish (busWrite a v s) rest s

end Sys2Proof.Machine
end

