-- ==== Sys2Proof/Syntax.lean ====
section
/-!
DEFINITION. The instructions: one constructor per row of spec/opcode_table.json, in the table's order,
an immediate d8, d16 or a16 carried as its field, and each constructor's instruction value (R97).
The byte that LD (C),A skips is no field: R98 says it is "not read, not decoded and has no effect".
-/

namespace Sys2Proof

/-- The 209 assigned encodings (R88, R89, R96). `Ind` in a name is the table's parentheses. -/
inductive Instr where
  | ldBCD16 (imm : Word)
  | ldBCIndA
  | ldBD8 (imm : Byte)
  | ldCD8 (imm : Byte)
  | ldDED16 (imm : Word)
  | ldDEIndA
  | ldDD8 (imm : Byte)
  | ldED8 (imm : Byte)
  | ldHLD16 (imm : Word)
  | ldHLIncA
  | ldHD8 (imm : Byte)
  | ldLD8 (imm : Byte)
  | ldSPD16 (imm : Word)
  | ldHLDecA
  | ldHLIndD8 (imm : Byte)
  | ldAD8 (imm : Byte)
  | ldBB
  | ldBC
  | ldBD
  | ldBE
  | ldBH
  | ldBL
  | ldBHLInd
  | ldBA
  | ldCB
  | ldCC
  | ldCD
  | ldCE
  | ldCH
  | ldCL
  | ldCHLInd
  | ldCA
  | ldDB
  | ldDC
  | ldDD
  | ldDE
  | ldDH
  | ldDL
  | ldDHLInd
  | ldDA
  | ldEB
  | ldEC
  | ldED
  | ldEE
  | ldEH
  | ldEL
  | ldEHLInd
  | ldEA
  | ldHB
  | ldHC
  | ldHD
  | ldHE
  | ldHH
  | ldHL
  | ldHHLInd
  | ldHA
  | ldLB
  | ldLC
  | ldLD
  | ldLE
  | ldLH
  | ldLL
  | ldLHLInd
  | ldLA
  | ldHLIndB
  | ldHLIndC
  | ldHLIndD
  | ldHLIndE
  | ldHLIndH
  | ldHLIndL
  | ldHLIndA
  | ldAB
  | ldAC
  | ldAD
  | ldAE
  | ldAH
  | ldAL
  | ldAHLInd
  | ldAA
  | addAB
  | addAC
  | addAD
  | addAE
  | addAH
  | addAL
  | addAHLInd
  | addAA
  | adcAB
  | adcAC
  | adcAD
  | adcAE
  | adcAH
  | adcAL
  | adcAHLInd
  | adcAA
  | subB
  | subC
  | subD
  | subE
  | subH
  | subL
  | subHLInd
  | subA
  | sbcAB
  | sbcAC
  | sbcAD
  | sbcAE
  | sbcAH
  | sbcAL
  | sbcAHLInd
  | sbcAA
  | andB
  | andC
  | andD
  | andE
  | andH
  | andL
  | andHLInd
  | andA
  | xorB
  | xorC
  | xorD
  | xorE
  | xorH
  | xorL
  | xorHLInd
  | xorA
  | orB
  | orC
  | orD
  | orE
  | orH
  | orL
  | orHLInd
  | orA
  | cpB
  | cpC
  | cpD
  | cpE
  | cpH
  | cpL
  | cpHLInd
  | cpA
  | ldCIndA
  | ldA16IndA (imm : Word)
  | bit0B
  | bit0C
  | bit0D
  | bit0E
  | bit0H
  | bit0L
  | bit0HLInd
  | bit0A
  | bit1B
  | bit1C
  | bit1D
  | bit1E
  | bit1H
  | bit1L
  | bit1HLInd
  | bit1A
  | bit2B
  | bit2C
  | bit2D
  | bit2E
  | bit2H
  | bit2L
  | bit2HLInd
  | bit2A
  | bit3B
  | bit3C
  | bit3D
  | bit3E
  | bit3H
  | bit3L
  | bit3HLInd
  | bit3A
  | bit4B
  | bit4C
  | bit4D
  | bit4E
  | bit4H
  | bit4L
  | bit4HLInd
  | bit4A
  | bit5B
  | bit5C
  | bit5D
  | bit5E
  | bit5H
  | bit5L
  | bit5HLInd
  | bit5A
  | bit6B
  | bit6C
  | bit6D
  | bit6E
  | bit6H
  | bit6L
  | bit6HLInd
  | bit6A
  | bit7B
  | bit7C
  | bit7D
  | bit7E
  | bit7H
  | bit7L
  | bit7HLInd
  | bit7A
deriving DecidableEq, Repr

/-- The instruction value (R97) each row of the table stands for. -/
def Instr.value : Instr → Value
  | .ldBCD16 _ => .ldWord .BC
  | .ldBCIndA => .stA .bci
  | .ldBD8 _ => .ldByte (.reg .B) .d8
  | .ldCD8 _ => .ldByte (.reg .C) .d8
  | .ldDED16 _ => .ldWord .DE
  | .ldDEIndA => .stA .dei
  | .ldDD8 _ => .ldByte (.reg .D) .d8
  | .ldED8 _ => .ldByte (.reg .E) .d8
  | .ldHLD16 _ => .ldWord .HL
  | .ldHLIncA => .stA .hliInc
  | .ldHD8 _ => .ldByte (.reg .H) .d8
  | .ldLD8 _ => .ldByte (.reg .L) .d8
  | .ldSPD16 _ => .ldWord .SP
  | .ldHLDecA => .stA .hld
  | .ldHLIndD8 _ => .ldByte .hli .d8
  | .ldAD8 _ => .ldByte (.reg .A) .d8
  | .ldBB => .ldByte (.reg .B) (.operand (.reg .B))
  | .ldBC => .ldByte (.reg .B) (.operand (.reg .C))
  | .ldBD => .ldByte (.reg .B) (.operand (.reg .D))
  | .ldBE => .ldByte (.reg .B) (.operand (.reg .E))
  | .ldBH => .ldByte (.reg .B) (.operand (.reg .H))
  | .ldBL => .ldByte (.reg .B) (.operand (.reg .L))
  | .ldBHLInd => .ldByte (.reg .B) (.operand .hli)
  | .ldBA => .ldByte (.reg .B) (.operand (.reg .A))
  | .ldCB => .ldByte (.reg .C) (.operand (.reg .B))
  | .ldCC => .ldByte (.reg .C) (.operand (.reg .C))
  | .ldCD => .ldByte (.reg .C) (.operand (.reg .D))
  | .ldCE => .ldByte (.reg .C) (.operand (.reg .E))
  | .ldCH => .ldByte (.reg .C) (.operand (.reg .H))
  | .ldCL => .ldByte (.reg .C) (.operand (.reg .L))
  | .ldCHLInd => .ldByte (.reg .C) (.operand .hli)
  | .ldCA => .ldByte (.reg .C) (.operand (.reg .A))
  | .ldDB => .ldByte (.reg .D) (.operand (.reg .B))
  | .ldDC => .ldByte (.reg .D) (.operand (.reg .C))
  | .ldDD => .ldByte (.reg .D) (.operand (.reg .D))
  | .ldDE => .ldByte (.reg .D) (.operand (.reg .E))
  | .ldDH => .ldByte (.reg .D) (.operand (.reg .H))
  | .ldDL => .ldByte (.reg .D) (.operand (.reg .L))
  | .ldDHLInd => .ldByte (.reg .D) (.operand .hli)
  | .ldDA => .ldByte (.reg .D) (.operand (.reg .A))
  | .ldEB => .ldByte (.reg .E) (.operand (.reg .B))
  | .ldEC => .ldByte (.reg .E) (.operand (.reg .C))
  | .ldED => .ldByte (.reg .E) (.operand (.reg .D))
  | .ldEE => .ldByte (.reg .E) (.operand (.reg .E))
  | .ldEH => .ldByte (.reg .E) (.operand (.reg .H))
  | .ldEL => .ldByte (.reg .E) (.operand (.reg .L))
  | .ldEHLInd => .ldByte (.reg .E) (.operand .hli)
  | .ldEA => .ldByte (.reg .E) (.operand (.reg .A))
  | .ldHB => .ldByte (.reg .H) (.operand (.reg .B))
  | .ldHC => .ldByte (.reg .H) (.operand (.reg .C))
  | .ldHD => .ldByte (.reg .H) (.operand (.reg .D))
  | .ldHE => .ldByte (.reg .H) (.operand (.reg .E))
  | .ldHH => .ldByte (.reg .H) (.operand (.reg .H))
  | .ldHL => .ldByte (.reg .H) (.operand (.reg .L))
  | .ldHHLInd => .ldByte (.reg .H) (.operand .hli)
  | .ldHA => .ldByte (.reg .H) (.operand (.reg .A))
  | .ldLB => .ldByte (.reg .L) (.operand (.reg .B))
  | .ldLC => .ldByte (.reg .L) (.operand (.reg .C))
  | .ldLD => .ldByte (.reg .L) (.operand (.reg .D))
  | .ldLE => .ldByte (.reg .L) (.operand (.reg .E))
  | .ldLH => .ldByte (.reg .L) (.operand (.reg .H))
  | .ldLL => .ldByte (.reg .L) (.operand (.reg .L))
  | .ldLHLInd => .ldByte (.reg .L) (.operand .hli)
  | .ldLA => .ldByte (.reg .L) (.operand (.reg .A))
  | .ldHLIndB => .ldByte .hli (.operand (.reg .B))
  | .ldHLIndC => .ldByte .hli (.operand (.reg .C))
  | .ldHLIndD => .ldByte .hli (.operand (.reg .D))
  | .ldHLIndE => .ldByte .hli (.operand (.reg .E))
  | .ldHLIndH => .ldByte .hli (.operand (.reg .H))
  | .ldHLIndL => .ldByte .hli (.operand (.reg .L))
  | .ldHLIndA => .ldByte .hli (.operand (.reg .A))
  | .ldAB => .ldByte (.reg .A) (.operand (.reg .B))
  | .ldAC => .ldByte (.reg .A) (.operand (.reg .C))
  | .ldAD => .ldByte (.reg .A) (.operand (.reg .D))
  | .ldAE => .ldByte (.reg .A) (.operand (.reg .E))
  | .ldAH => .ldByte (.reg .A) (.operand (.reg .H))
  | .ldAL => .ldByte (.reg .A) (.operand (.reg .L))
  | .ldAHLInd => .ldByte (.reg .A) (.operand .hli)
  | .ldAA => .ldByte (.reg .A) (.operand (.reg .A))
  | .addAB => .alu .add (.reg .B)
  | .addAC => .alu .add (.reg .C)
  | .addAD => .alu .add (.reg .D)
  | .addAE => .alu .add (.reg .E)
  | .addAH => .alu .add (.reg .H)
  | .addAL => .alu .add (.reg .L)
  | .addAHLInd => .alu .add .hli
  | .addAA => .alu .add (.reg .A)
  | .adcAB => .alu .adc (.reg .B)
  | .adcAC => .alu .adc (.reg .C)
  | .adcAD => .alu .adc (.reg .D)
  | .adcAE => .alu .adc (.reg .E)
  | .adcAH => .alu .adc (.reg .H)
  | .adcAL => .alu .adc (.reg .L)
  | .adcAHLInd => .alu .adc .hli
  | .adcAA => .alu .adc (.reg .A)
  | .subB => .alu .sub (.reg .B)
  | .subC => .alu .sub (.reg .C)
  | .subD => .alu .sub (.reg .D)
  | .subE => .alu .sub (.reg .E)
  | .subH => .alu .sub (.reg .H)
  | .subL => .alu .sub (.reg .L)
  | .subHLInd => .alu .sub .hli
  | .subA => .alu .sub (.reg .A)
  | .sbcAB => .alu .sbc (.reg .B)
  | .sbcAC => .alu .sbc (.reg .C)
  | .sbcAD => .alu .sbc (.reg .D)
  | .sbcAE => .alu .sbc (.reg .E)
  | .sbcAH => .alu .sbc (.reg .H)
  | .sbcAL => .alu .sbc (.reg .L)
  | .sbcAHLInd => .alu .sbc .hli
  | .sbcAA => .alu .sbc (.reg .A)
  | .andB => .alu .and (.reg .B)
  | .andC => .alu .and (.reg .C)
  | .andD => .alu .and (.reg .D)
  | .andE => .alu .and (.reg .E)
  | .andH => .alu .and (.reg .H)
  | .andL => .alu .and (.reg .L)
  | .andHLInd => .alu .and .hli
  | .andA => .alu .and (.reg .A)
  | .xorB => .alu .xor (.reg .B)
  | .xorC => .alu .xor (.reg .C)
  | .xorD => .alu .xor (.reg .D)
  | .xorE => .alu .xor (.reg .E)
  | .xorH => .alu .xor (.reg .H)
  | .xorL => .alu .xor (.reg .L)
  | .xorHLInd => .alu .xor .hli
  | .xorA => .alu .xor (.reg .A)
  | .orB => .alu .or (.reg .B)
  | .orC => .alu .or (.reg .C)
  | .orD => .alu .or (.reg .D)
  | .orE => .alu .or (.reg .E)
  | .orH => .alu .or (.reg .H)
  | .orL => .alu .or (.reg .L)
  | .orHLInd => .alu .or .hli
  | .orA => .alu .or (.reg .A)
  | .cpB => .alu .cp (.reg .B)
  | .cpC => .alu .cp (.reg .C)
  | .cpD => .alu .cp (.reg .D)
  | .cpE => .alu .cp (.reg .E)
  | .cpH => .alu .cp (.reg .H)
  | .cpL => .alu .cp (.reg .L)
  | .cpHLInd => .alu .cp .hli
  | .cpA => .alu .cp (.reg .A)
  | .ldCIndA => .stA .highC
  | .ldA16IndA _ => .stA .a16
  | .bit0B => .bit 0 (.reg .B)
  | .bit0C => .bit 0 (.reg .C)
  | .bit0D => .bit 0 (.reg .D)
  | .bit0E => .bit 0 (.reg .E)
  | .bit0H => .bit 0 (.reg .H)
  | .bit0L => .bit 0 (.reg .L)
  | .bit0HLInd => .bit 0 .hli
  | .bit0A => .bit 0 (.reg .A)
  | .bit1B => .bit 1 (.reg .B)
  | .bit1C => .bit 1 (.reg .C)
  | .bit1D => .bit 1 (.reg .D)
  | .bit1E => .bit 1 (.reg .E)
  | .bit1H => .bit 1 (.reg .H)
  | .bit1L => .bit 1 (.reg .L)
  | .bit1HLInd => .bit 1 .hli
  | .bit1A => .bit 1 (.reg .A)
  | .bit2B => .bit 2 (.reg .B)
  | .bit2C => .bit 2 (.reg .C)
  | .bit2D => .bit 2 (.reg .D)
  | .bit2E => .bit 2 (.reg .E)
  | .bit2H => .bit 2 (.reg .H)
  | .bit2L => .bit 2 (.reg .L)
  | .bit2HLInd => .bit 2 .hli
  | .bit2A => .bit 2 (.reg .A)
  | .bit3B => .bit 3 (.reg .B)
  | .bit3C => .bit 3 (.reg .C)
  | .bit3D => .bit 3 (.reg .D)
  | .bit3E => .bit 3 (.reg .E)
  | .bit3H => .bit 3 (.reg .H)
  | .bit3L => .bit 3 (.reg .L)
  | .bit3HLInd => .bit 3 .hli
  | .bit3A => .bit 3 (.reg .A)
  | .bit4B => .bit 4 (.reg .B)
  | .bit4C => .bit 4 (.reg .C)
  | .bit4D => .bit 4 (.reg .D)
  | .bit4E => .bit 4 (.reg .E)
  | .bit4H => .bit 4 (.reg .H)
  | .bit4L => .bit 4 (.reg .L)
  | .bit4HLInd => .bit 4 .hli
  | .bit4A => .bit 4 (.reg .A)
  | .bit5B => .bit 5 (.reg .B)
  | .bit5C => .bit 5 (.reg .C)
  | .bit5D => .bit 5 (.reg .D)
  | .bit5E => .bit 5 (.reg .E)
  | .bit5H => .bit 5 (.reg .H)
  | .bit5L => .bit 5 (.reg .L)
  | .bit5HLInd => .bit 5 .hli
  | .bit5A => .bit 5 (.reg .A)
  | .bit6B => .bit 6 (.reg .B)
  | .bit6C => .bit 6 (.reg .C)
  | .bit6D => .bit 6 (.reg .D)
  | .bit6E => .bit 6 (.reg .E)
  | .bit6H => .bit 6 (.reg .H)
  | .bit6L => .bit 6 (.reg .L)
  | .bit6HLInd => .bit 6 .hli
  | .bit6A => .bit 6 (.reg .A)
  | .bit7B => .bit 7 (.reg .B)
  | .bit7C => .bit 7 (.reg .C)
  | .bit7D => .bit 7 (.reg .D)
  | .bit7E => .bit 7 (.reg .E)
  | .bit7H => .bit 7 (.reg .H)
  | .bit7L => .bit 7 (.reg .L)
  | .bit7HLInd => .bit 7 .hli
  | .bit7A => .bit 7 (.reg .A)

end Sys2Proof
end

