-- ==== Sys2Proof/Machine/Operands.lean ====
section
/-!
DEFINITION. Every operand form: the register pairs (10_state.md R14, R15), the 8-bit operands
(40_step_cycle.md R114, R115) and the addresses of the stores of A (44_store_indirect.md R190).
-/

namespace Sys2Proof.Machine

/-- Read a register pair (R14); AF's low byte is the packed flags byte. -/
def getPair (p : PairView) (s : State) : Word :=
  match p with
  | .AF => join s.a s.flags.toByte
  | .BC => join s.b s.c
  | .DE => join s.d s.e
  | .HL => join s.h s.l

/-- Write a register pair (R15); for AF the low four bits are dropped. -/
def setPair (p : PairView) (w : Word) (s : State) : State :=
  match p with
  | .AF => setFlags (Flags.fromByte (loByte w)) (setReg .A (hiByte w) s)
  | .BC => setReg .C (loByte w) (setReg .B (hiByte w) s)
  | .DE => setReg .E (loByte w) (setReg .D (hiByte w) s)
  | .HL => setReg .L (loByte w) (setReg .H (hiByte w) s)

/-- `value(s)` (R114): a register, or a bus read at HL. -/
def operandRead (o : Operand8) (s : State) : Byte :=
  match o with
  | .reg r => getReg r s
  | .hli => busRead s (getPair .HL s)

/-- `t <- v` (R115): a register, or a bus write at HL. -/
def operandWrite (o : Operand8) (v : Byte) (s : State) : Except Condition State :=
  match o with
  | .reg r => .ok (setReg r v s)
  | .hli => busWrite (getPair .HL s) v s

/-- The high-page address `0xFF00 | C` (R196). -/
def highPage (c : Byte) : Word :=
  0xFF00#16 ||| c.setWidth 16

/-- The address an instruction stores to, if it is one of the fourteen encodings that write memory (R63). -/
def storeAddress (i : Instr) (s : State) : Option Word :=
  match i with
  | .ldA16IndA imm => some imm
  | _ =>
    match i.value with
    | .ldByte .hli _ => some (getPair .HL s)
    | .stA .bci => some (getPair .BC s)
    | .stA .dei => some (getPair .DE s)
    | .stA .hliInc => some (getPair .HL s)
    | .stA .hld => some (getPair .HL s)
    | .stA .highC => some (highPage s.c)
    | _ => none

/-- The byte an instruction that writes memory stores (R163, R165, R190). -/
def storeValue (i : Instr) (s : State) : Byte :=
  match i with
  | .ldHLIndD8 imm => imm
  | _ =>
    match i.value with
    | .ldByte .hli (.operand o) => operandRead o s
    | _ => s.a

end Sys2Proof.Machine
end

