-- ==== Sys2Proof/Machine/Alu.lean ====
section
/-!
DEFINITION. Arithmetic and logic (41_alu.md): ADD, ADC, SUB, SBC, AND, XOR, OR, CP with the operands
B, C, D, E, H, L, (HL) and A.
-/

namespace Sys2Proof.Machine

/-- The cycle count of the family (R130). -/
def aluCycles : Operand8 → Nat
  | .reg _ => 4
  | .hli => 8

/-- What R130 shares: read the operand, apply the operation to A, write the flags, and write A except
for CP (R138). The family never writes memory and cannot fail. -/
def execAlu (op : AluOp) (src : Operand8) (s : State) : Result :=
  let r := aluCompute op s.a (operandRead src s) s.flags.c
  .next (advance 1 (aluCycles src) (setFlags r.flags (if op = .cp then s else setReg .A r.res s)))

/-- `ADD A,B` (R131). -/
def execAddAB (s : State) : Result :=
  execAlu .add (.reg .B) s

/-- `ADD A,C` (R131). -/
def execAddAC (s : State) : Result :=
  execAlu .add (.reg .C) s

/-- `ADD A,D` (R131). -/
def execAddAD (s : State) : Result :=
  execAlu .add (.reg .D) s

/-- `ADD A,E` (R131). -/
def execAddAE (s : State) : Result :=
  execAlu .add (.reg .E) s

/-- `ADD A,H` (R131). -/
def execAddAH (s : State) : Result :=
  execAlu .add (.reg .H) s

/-- `ADD A,L` (R131). -/
def execAddAL (s : State) : Result :=
  execAlu .add (.reg .L) s

/-- `ADD A,(HL)` (R131). -/
def execAddAHLInd (s : State) : Result :=
  execAlu .add .hli s

/-- `ADD A,A` (R131). -/
def execAddAA (s : State) : Result :=
  execAlu .add (.reg .A) s

/-- `ADC A,B` (R132). -/
def execAdcAB (s : State) : Result :=
  execAlu .adc (.reg .B) s

/-- `ADC A,C` (R132). -/
def execAdcAC (s : State) : Result :=
  execAlu .adc (.reg .C) s

/-- `ADC A,D` (R132). -/
def execAdcAD (s : State) : Result :=
  execAlu .adc (.reg .D) s

/-- `ADC A,E` (R132). -/
def execAdcAE (s : State) : Result :=
  execAlu .adc (.reg .E) s

/-- `ADC A,H` (R132). -/
def execAdcAH (s : State) : Result :=
  execAlu .adc (.reg .H) s

/-- `ADC A,L` (R132). -/
def execAdcAL (s : State) : Result :=
  execAlu .adc (.reg .L) s

/-- `ADC A,(HL)` (R132). -/
def execAdcAHLInd (s : State) : Result :=
  execAlu .adc .hli s

/-- `ADC A,A` (R132). -/
def execAdcAA (s : State) : Result :=
  execAlu .adc (.reg .A) s

/-- `SUB B` (R133). -/
def execSubB (s : State) : Result :=
  execAlu .sub (.reg .B) s

/-- `SUB C` (R133). -/
def execSubC (s : State) : Result :=
  execAlu .sub (.reg .C) s

/-- `SUB D` (R133). -/
def execSubD (s : State) : Result :=
  execAlu .sub (.reg .D) s

/-- `SUB E` (R133). -/
def execSubE (s : State) : Result :=
  execAlu .sub (.reg .E) s

/-- `SUB H` (R133). -/
def execSubH (s : State) : Result :=
  execAlu .sub (.reg .H) s

/-- `SUB L` (R133). -/
def execSubL (s : State) : Result :=
  execAlu .sub (.reg .L) s

/-- `SUB (HL)` (R133). -/
def execSubHLInd (s : State) : Result :=
  execAlu .sub .hli s

/-- `SUB A` (R133). -/
def execSubA (s : State) : Result :=
  execAlu .sub (.reg .A) s

/-- `SBC A,B` (R134). -/
def execSbcAB (s : State) : Result :=
  execAlu .sbc (.reg .B) s

/-- `SBC A,C` (R134). -/
def execSbcAC (s : State) : Result :=
  execAlu .sbc (.reg .C) s

/-- `SBC A,D` (R134). -/
def execSbcAD (s : State) : Result :=
  execAlu .sbc (.reg .D) s

/-- `SBC A,E` (R134). -/
def execSbcAE (s : State) : Result :=
  execAlu .sbc (.reg .E) s

/-- `SBC A,H` (R134). -/
def execSbcAH (s : State) : Result :=
  execAlu .sbc (.reg .H) s

/-- `SBC A,L` (R134). -/
def execSbcAL (s : State) : Result :=
  execAlu .sbc (.reg .L) s

/-- `SBC A,(HL)` (R134). -/
def execSbcAHLInd (s : State) : Result :=
  execAlu .sbc .hli s

/-- `SBC A,A` (R134). -/
def execSbcAA (s : State) : Result :=
  execAlu .sbc (.reg .A) s

/-- `AND B` (R135). -/
def execAndB (s : State) : Result :=
  execAlu .and (.reg .B) s

/-- `AND C` (R135). -/
def execAndC (s : State) : Result :=
  execAlu .and (.reg .C) s

/-- `AND D` (R135). -/
def execAndD (s : State) : Result :=
  execAlu .and (.reg .D) s

/-- `AND E` (R135). -/
def execAndE (s : State) : Result :=
  execAlu .and (.reg .E) s

/-- `AND H` (R135). -/
def execAndH (s : State) : Result :=
  execAlu .and (.reg .H) s

/-- `AND L` (R135). -/
def execAndL (s : State) : Result :=
  execAlu .and (.reg .L) s

/-- `AND (HL)` (R135). -/
def execAndHLInd (s : State) : Result :=
  execAlu .and .hli s

/-- `AND A` (R135). -/
def execAndA (s : State) : Result :=
  execAlu .and (.reg .A) s

/-- `XOR B` (R136). -/
def execXorB (s : State) : Result :=
  execAlu .xor (.reg .B) s

/-- `XOR C` (R136). -/
def execXorC (s : State) : Result :=
  execAlu .xor (.reg .C) s

/-- `XOR D` (R136). -/
def execXorD (s : State) : Result :=
  execAlu .xor (.reg .D) s

/-- `XOR E` (R136). -/
def execXorE (s : State) : Result :=
  execAlu .xor (.reg .E) s

/-- `XOR H` (R136). -/
def execXorH (s : State) : Result :=
  execAlu .xor (.reg .H) s

/-- `XOR L` (R136). -/
def execXorL (s : State) : Result :=
  execAlu .xor (.reg .L) s

/-- `XOR (HL)` (R136). -/
def execXorHLInd (s : State) : Result :=
  execAlu .xor .hli s

/-- `XOR A` (R136). -/
def execXorA (s : State) : Result :=
  execAlu .xor (.reg .A) s

/-- `OR B` (R137). -/
def execOrB (s : State) : Result :=
  execAlu .or (.reg .B) s

/-- `OR C` (R137). -/
def execOrC (s : State) : Result :=
  execAlu .or (.reg .C) s

/-- `OR D` (R137). -/
def execOrD (s : State) : Result :=
  execAlu .or (.reg .D) s

/-- `OR E` (R137). -/
def execOrE (s : State) : Result :=
  execAlu .or (.reg .E) s

/-- `OR H` (R137). -/
def execOrH (s : State) : Result :=
  execAlu .or (.reg .H) s

/-- `OR L` (R137). -/
def execOrL (s : State) : Result :=
  execAlu .or (.reg .L) s

/-- `OR (HL)` (R137). -/
def execOrHLInd (s : State) : Result :=
  execAlu .or .hli s

/-- `OR A` (R137). -/
def execOrA (s : State) : Result :=
  execAlu .or (.reg .A) s

/-- `CP B` (R138). -/
def execCpB (s : State) : Result :=
  execAlu .cp (.reg .B) s

/-- `CP C` (R138). -/
def execCpC (s : State) : Result :=
  execAlu .cp (.reg .C) s

/-- `CP D` (R138). -/
def execCpD (s : State) : Result :=
  execAlu .cp (.reg .D) s

/-- `CP E` (R138). -/
def execCpE (s : State) : Result :=
  execAlu .cp (.reg .E) s

/-- `CP H` (R138). -/
def execCpH (s : State) : Result :=
  execAlu .cp (.reg .H) s

/-- `CP L` (R138). -/
def execCpL (s : State) : Result :=
  execAlu .cp (.reg .L) s

/-- `CP (HL)` (R138). -/
def execCpHLInd (s : State) : Result :=
  execAlu .cp .hli s

/-- `CP A` (R138). -/
def execCpA (s : State) : Result :=
  execAlu .cp (.reg .A) s

end Sys2Proof.Machine
end

