-- ==== Sys2Proof/Machine/Bit.lean ====
section
/-! DEFINITION. The single-bit test (45_bit.md): BIT b,r and BIT b,(HL), the only prefixed family. -/

namespace Sys2Proof.Machine

/-- The cycle count of a bit test (R211, R212). -/
def bitCycles : Operand8 → Nat
  | .reg _ => Params.bitCyclesReg
  | .hli => Params.bitCyclesHli

/-- What R210 shares: the flags from the designated bit, no register and no memory written. -/
def execBit (index : Nat) (src : Operand8) (s : State) : Result :=
  .next (advance 2 (bitCycles src) (setFlags (bitFlags (operandRead src s) index s.flags) s))

/-- `BIT 0,B` (R211). -/
def execBit0B (s : State) : Result :=
  execBit 0 (.reg .B) s

/-- `BIT 0,C` (R211). -/
def execBit0C (s : State) : Result :=
  execBit 0 (.reg .C) s

/-- `BIT 0,D` (R211). -/
def execBit0D (s : State) : Result :=
  execBit 0 (.reg .D) s

/-- `BIT 0,E` (R211). -/
def execBit0E (s : State) : Result :=
  execBit 0 (.reg .E) s

/-- `BIT 0,H` (R211). -/
def execBit0H (s : State) : Result :=
  execBit 0 (.reg .H) s

/-- `BIT 0,L` (R211). -/
def execBit0L (s : State) : Result :=
  execBit 0 (.reg .L) s

/-- `BIT 0,(HL)` (R212). -/
def execBit0HLInd (s : State) : Result :=
  execBit 0 .hli s

/-- `BIT 0,A` (R211). -/
def execBit0A (s : State) : Result :=
  execBit 0 (.reg .A) s

/-- `BIT 1,B` (R211). -/
def execBit1B (s : State) : Result :=
  execBit 1 (.reg .B) s

/-- `BIT 1,C` (R211). -/
def execBit1C (s : State) : Result :=
  execBit 1 (.reg .C) s

/-- `BIT 1,D` (R211). -/
def execBit1D (s : State) : Result :=
  execBit 1 (.reg .D) s

/-- `BIT 1,E` (R211). -/
def execBit1E (s : State) : Result :=
  execBit 1 (.reg .E) s

/-- `BIT 1,H` (R211). -/
def execBit1H (s : State) : Result :=
  execBit 1 (.reg .H) s

/-- `BIT 1,L` (R211). -/
def execBit1L (s : State) : Result :=
  execBit 1 (.reg .L) s

/-- `BIT 1,(HL)` (R212). -/
def execBit1HLInd (s : State) : Result :=
  execBit 1 .hli s

/-- `BIT 1,A` (R211). -/
def execBit1A (s : State) : Result :=
  execBit 1 (.reg .A) s

/-- `BIT 2,B` (R211). -/
def execBit2B (s : State) : Result :=
  execBit 2 (.reg .B) s

/-- `BIT 2,C` (R211). -/
def execBit2C (s : State) : Result :=
  execBit 2 (.reg .C) s

/-- `BIT 2,D` (R211). -/
def execBit2D (s : State) : Result :=
  execBit 2 (.reg .D) s

/-- `BIT 2,E` (R211). -/
def execBit2E (s : State) : Result :=
  execBit 2 (.reg .E) s

/-- `BIT 2,H` (R211). -/
def execBit2H (s : State) : Result :=
  execBit 2 (.reg .H) s

/-- `BIT 2,L` (R211). -/
def execBit2L (s : State) : Result :=
  execBit 2 (.reg .L) s

/-- `BIT 2,(HL)` (R212). -/
def execBit2HLInd (s : State) : Result :=
  execBit 2 .hli s

/-- `BIT 2,A` (R211). -/
def execBit2A (s : State) : Result :=
  execBit 2 (.reg .A) s

/-- `BIT 3,B` (R211). -/
def execBit3B (s : State) : Result :=
  execBit 3 (.reg .B) s

/-- `BIT 3,C` (R211). -/
def execBit3C (s : State) : Result :=
  execBit 3 (.reg .C) s

/-- `BIT 3,D` (R211). -/
def execBit3D (s : State) : Result :=
  execBit 3 (.reg .D) s

/-- `BIT 3,E` (R211). -/
def execBit3E (s : State) : Result :=
  execBit 3 (.reg .E) s

/-- `BIT 3,H` (R211). -/
def execBit3H (s : State) : Result :=
  execBit 3 (.reg .H) s

/-- `BIT 3,L` (R211). -/
def execBit3L (s : State) : Result :=
  execBit 3 (.reg .L) s

/-- `BIT 3,(HL)` (R212). -/
def execBit3HLInd (s : State) : Result :=
  execBit 3 .hli s

/-- `BIT 3,A` (R211). -/
def execBit3A (s : State) : Result :=
  execBit 3 (.reg .A) s

/-- `BIT 4,B` (R211). -/
def execBit4B (s : State) : Result :=
  execBit 4 (.reg .B) s

/-- `BIT 4,C` (R211). -/
def execBit4C (s : State) : Result :=
  execBit 4 (.reg .C) s

/-- `BIT 4,D` (R211). -/
def execBit4D (s : State) : Result :=
  execBit 4 (.reg .D) s

/-- `BIT 4,E` (R211). -/
def execBit4E (s : State) : Result :=
  execBit 4 (.reg .E) s

/-- `BIT 4,H` (R211). -/
def execBit4H (s : State) : Result :=
  execBit 4 (.reg .H) s

/-- `BIT 4,L` (R211). -/
def execBit4L (s : State) : Result :=
  execBit 4 (.reg .L) s

/-- `BIT 4,(HL)` (R212). -/
def execBit4HLInd (s : State) : Result :=
  execBit 4 .hli s

/-- `BIT 4,A` (R211). -/
def execBit4A (s : State) : Result :=
  execBit 4 (.reg .A) s

/-- `BIT 5,B` (R211). -/
def execBit5B (s : State) : Result :=
  execBit 5 (.reg .B) s

/-- `BIT 5,C` (R211). -/
def execBit5C (s : State) : Result :=
  execBit 5 (.reg .C) s

/-- `BIT 5,D` (R211). -/
def execBit5D (s : State) : Result :=
  execBit 5 (.reg .D) s

/-- `BIT 5,E` (R211). -/
def execBit5E (s : State) : Result :=
  execBit 5 (.reg .E) s

/-- `BIT 5,H` (R211). -/
def execBit5H (s : State) : Result :=
  execBit 5 (.reg .H) s

/-- `BIT 5,L` (R211). -/
def execBit5L (s : State) : Result :=
  execBit 5 (.reg .L) s

/-- `BIT 5,(HL)` (R212). -/
def execBit5HLInd (s : State) : Result :=
  execBit 5 .hli s

/-- `BIT 5,A` (R211). -/
def execBit5A (s : State) : Result :=
  execBit 5 (.reg .A) s

/-- `BIT 6,B` (R211). -/
def execBit6B (s : State) : Result :=
  execBit 6 (.reg .B) s

/-- `BIT 6,C` (R211). -/
def execBit6C (s : State) : Result :=
  execBit 6 (.reg .C) s

/-- `BIT 6,D` (R211). -/
def execBit6D (s : State) : Result :=
  execBit 6 (.reg .D) s

/-- `BIT 6,E` (R211). -/
def execBit6E (s : State) : Result :=
  execBit 6 (.reg .E) s

/-- `BIT 6,H` (R211). -/
def execBit6H (s : State) : Result :=
  execBit 6 (.reg .H) s

/-- `BIT 6,L` (R211). -/
def execBit6L (s : State) : Result :=
  execBit 6 (.reg .L) s

/-- `BIT 6,(HL)` (R212). -/
def execBit6HLInd (s : State) : Result :=
  execBit 6 .hli s

/-- `BIT 6,A` (R211). -/
def execBit6A (s : State) : Result :=
  execBit 6 (.reg .A) s

/-- `BIT 7,B` (R211). -/
def execBit7B (s : State) : Result :=
  execBit 7 (.reg .B) s

/-- `BIT 7,C` (R211). -/
def execBit7C (s : State) : Result :=
  execBit 7 (.reg .C) s

/-- `BIT 7,D` (R211). -/
def execBit7D (s : State) : Result :=
  execBit 7 (.reg .D) s

/-- `BIT 7,E` (R211). -/
def execBit7E (s : State) : Result :=
  execBit 7 (.reg .E) s

/-- `BIT 7,H` (R211). -/
def execBit7H (s : State) : Result :=
  execBit 7 (.reg .H) s

/-- `BIT 7,L` (R211). -/
def execBit7L (s : State) : Result :=
  execBit 7 (.reg .L) s

/-- `BIT 7,(HL)` (R212). -/
def execBit7HLInd (s : State) : Result :=
  execBit 7 .hli s

/-- `BIT 7,A` (R211). -/
def execBit7A (s : State) : Result :=
  execBit 7 (.reg .A) s

end Sys2Proof.Machine
end

