-- ==== Sys2Proof/Machine/LoadByte.lean ====
section
/-!
DEFINITION. Byte loads (42_load_byte.md): LD r,r', LD r,(HL), LD (HL),r, LD r,d8 and LD (HL),d8. No form
reads or writes a flag (R160).
-/

namespace Sys2Proof.Machine

/-- What R160 shares: the source value, resolved from the state before any write, is stored into a
register or by a bus write at HL; then PC advances. -/
def execLdByte (target : Operand8) (v : Byte) (length cycles : Nat) (s : State) : Result :=
  finish (operandWrite target v s) (advance length cycles) s

/-- `LD r,r'` (R161). -/
def execLdRegReg (t src : Reg8) (s : State) : Result :=
  execLdByte (.reg t) (operandRead (.reg src) s) 1 4 s

/-- `LD r,(HL)` (R162): the address is formed from the old H and L. -/
def execLdRegInd (t : Reg8) (s : State) : Result :=
  execLdByte (.reg t) (operandRead .hli s) 1 8 s

/-- `LD (HL),r` (R163). -/
def execLdIndReg (src : Reg8) (s : State) : Result :=
  execLdByte .hli (operandRead (.reg src) s) 1 8 s

/-- `LD r,d8` (R164). -/
def execLdRegImm (t : Reg8) (imm : Byte) (s : State) : Result :=
  execLdByte (.reg t) imm 2 8 s

/-- `LD (HL),d8` (R165): PC advances by 2, since the form has an immediate byte (log entry 23). -/
def execLdIndImm (imm : Byte) (s : State) : Result :=
  execLdByte .hli imm 2 8 s

/-- `LD B,d8` (R164). -/
def execLdBD8 (imm : Byte) (s : State) : Result :=
  execLdRegImm .B imm s

/-- `LD C,d8` (R164). -/
def execLdCD8 (imm : Byte) (s : State) : Result :=
  execLdRegImm .C imm s

/-- `LD D,d8` (R164). -/
def execLdDD8 (imm : Byte) (s : State) : Result :=
  execLdRegImm .D imm s

/-- `LD E,d8` (R164). -/
def execLdED8 (imm : Byte) (s : State) : Result :=
  execLdRegImm .E imm s

/-- `LD H,d8` (R164). -/
def execLdHD8 (imm : Byte) (s : State) : Result :=
  execLdRegImm .H imm s

/-- `LD L,d8` (R164). -/
def execLdLD8 (imm : Byte) (s : State) : Result :=
  execLdRegImm .L imm s

/-- `LD (HL),d8` (R165). -/
def execLdHLIndD8 (imm : Byte) (s : State) : Result :=
  execLdIndImm imm s

/-- `LD A,d8` (R164). -/
def execLdAD8 (imm : Byte) (s : State) : Result :=
  execLdRegImm .A imm s

/-- `LD B,B` (R161). -/
def execLdBB (s : State) : Result :=
  execLdRegReg .B .B s

/-- `LD B,C` (R161). -/
def execLdBC (s : State) : Result :=
  execLdRegReg .B .C s

/-- `LD B,D` (R161). -/
def execLdBD (s : State) : Result :=
  execLdRegReg .B .D s

/-- `LD B,E` (R161). -/
def execLdBE (s : State) : Result :=
  execLdRegReg .B .E s

/-- `LD B,H` (R161). -/
def execLdBH (s : State) : Result :=
  execLdRegReg .B .H s

/-- `LD B,L` (R161). -/
def execLdBL (s : State) : Result :=
  execLdRegReg .B .L s

/-- `LD B,(HL)` (R162). -/
def execLdBHLInd (s : State) : Result :=
  execLdRegInd .B s

/-- `LD B,A` (R161). -/
def execLdBA (s : State) : Result :=
  execLdRegReg .B .A s

/-- `LD C,B` (R161). -/
def execLdCB (s : State) : Result :=
  execLdRegReg .C .B s

/-- `LD C,C` (R161). -/
def execLdCC (s : State) : Result :=
  execLdRegReg .C .C s

/-- `LD C,D` (R161). -/
def execLdCD (s : State) : Result :=
  execLdRegReg .C .D s

/-- `LD C,E` (R161). -/
def execLdCE (s : State) : Result :=
  execLdRegReg .C .E s

/-- `LD C,H` (R161). -/
def execLdCH (s : State) : Result :=
  execLdRegReg .C .H s

/-- `LD C,L` (R161). -/
def execLdCL (s : State) : Result :=
  execLdRegReg .C .L s

/-- `LD C,(HL)` (R162). -/
def execLdCHLInd (s : State) : Result :=
  execLdRegInd .C s

/-- `LD C,A` (R161). -/
def execLdCA (s : State) : Result :=
  execLdRegReg .C .A s

/-- `LD D,B` (R161). -/
def execLdDB (s : State) : Result :=
  execLdRegReg .D .B s

/-- `LD D,C` (R161). -/
def execLdDC (s : State) : Result :=
  execLdRegReg .D .C s

/-- `LD D,D` (R161). -/
def execLdDD (s : State) : Result :=
  execLdRegReg .D .D s

/-- `LD D,E` (R161). -/
def execLdDE (s : State) : Result :=
  execLdRegReg .D .E s

/-- `LD D,H` (R161). -/
def execLdDH (s : State) : Result :=
  execLdRegReg .D .H s

/-- `LD D,L` (R161). -/
def execLdDL (s : State) : Result :=
  execLdRegReg .D .L s

/-- `LD D,(HL)` (R162). -/
def execLdDHLInd (s : State) : Result :=
  execLdRegInd .D s

/-- `LD D,A` (R161). -/
def execLdDA (s : State) : Result :=
  execLdRegReg .D .A s

/-- `LD E,B` (R161). -/
def execLdEB (s : State) : Result :=
  execLdRegReg .E .B s

/-- `LD E,C` (R161). -/
def execLdEC (s : State) : Result :=
  execLdRegReg .E .C s

/-- `LD E,D` (R161). -/
def execLdED (s : State) : Result :=
  execLdRegReg .E .D s

/-- `LD E,E` (R161). -/
def execLdEE (s : State) : Result :=
  execLdRegReg .E .E s

/-- `LD E,H` (R161). -/
def execLdEH (s : State) : Result :=
  execLdRegReg .E .H s

/-- `LD E,L` (R161). -/
def execLdEL (s : State) : Result :=
  execLdRegReg .E .L s

/-- `LD E,(HL)` (R162). -/
def execLdEHLInd (s : State) : Result :=
  execLdRegInd .E s

/-- `LD E,A` (R161). -/
def execLdEA (s : State) : Result :=
  execLdRegReg .E .A s

/-- `LD H,B` (R161). -/
def execLdHB (s : State) : Result :=
  execLdRegReg .H .B s

/-- `LD H,C` (R161). -/
def execLdHC (s : State) : Result :=
  execLdRegReg .H .C s

/-- `LD H,D` (R161). -/
def execLdHD (s : State) : Result :=
  execLdRegReg .H .D s

/-- `LD H,E` (R161). -/
def execLdHE (s : State) : Result :=
  execLdRegReg .H .E s

/-- `LD H,H` (R161). -/
def execLdHH (s : State) : Result :=
  execLdRegReg .H .H s

/-- `LD H,L` (R161). -/
def execLdHL (s : State) : Result :=
  execLdRegReg .H .L s

/-- `LD H,(HL)` (R162). -/
def execLdHHLInd (s : State) : Result :=
  execLdRegInd .H s

/-- `LD H,A` (R161). -/
def execLdHA (s : State) : Result :=
  execLdRegReg .H .A s

/-- `LD L,B` (R161). -/
def execLdLB (s : State) : Result :=
  execLdRegReg .L .B s

/-- `LD L,C` (R161). -/
def execLdLC (s : State) : Result :=
  execLdRegReg .L .C s

/-- `LD L,D` (R161). -/
def execLdLD (s : State) : Result :=
  execLdRegReg .L .D s

/-- `LD L,E` (R161). -/
def execLdLE (s : State) : Result :=
  execLdRegReg .L .E s

/-- `LD L,H` (R161). -/
def execLdLH (s : State) : Result :=
  execLdRegReg .L .H s

/-- `LD L,L` (R161). -/
def execLdLL (s : State) : Result :=
  execLdRegReg .L .L s

/-- `LD L,(HL)` (R162). -/
def execLdLHLInd (s : State) : Result :=
  execLdRegInd .L s

/-- `LD L,A` (R161). -/
def execLdLA (s : State) : Result :=
  execLdRegReg .L .A s

/-- `LD (HL),B` (R163). -/
def execLdHLIndB (s : State) : Result :=
  execLdIndReg .B s

/-- `LD (HL),C` (R163). -/
def execLdHLIndC (s : State) : Result :=
  execLdIndReg .C s

/-- `LD (HL),D` (R163). -/
def execLdHLIndD (s : State) : Result :=
  execLdIndReg .D s

/-- `LD (HL),E` (R163). -/
def execLdHLIndE (s : State) : Result :=
  execLdIndReg .E s

/-- `LD (HL),H` (R163). -/
def execLdHLIndH (s : State) : Result :=
  execLdIndReg .H s

/-- `LD (HL),L` (R163). -/
def execLdHLIndL (s : State) : Result :=
  execLdIndReg .L s

/-- `LD (HL),A` (R163). -/
def execLdHLIndA (s : State) : Result :=
  execLdIndReg .A s

/-- `LD A,B` (R161). -/
def execLdAB (s : State) : Result :=
  execLdRegReg .A .B s

/-- `LD A,C` (R161). -/
def execLdAC (s : State) : Result :=
  execLdRegReg .A .C s

/-- `LD A,D` (R161). -/
def execLdAD (s : State) : Result :=
  execLdRegReg .A .D s

/-- `LD A,E` (R161). -/
def execLdAE (s : State) : Result :=
  execLdRegReg .A .E s

/-- `LD A,H` (R161). -/
def execLdAH (s : State) : Result :=
  execLdRegReg .A .H s

/-- `LD A,L` (R161). -/
def execLdAL (s : State) : Result :=
  execLdRegReg .A .L s

/-- `LD A,(HL)` (R162). -/
def execLdAHLInd (s : State) : Result :=
  execLdRegInd .A s

/-- `LD A,A` (R161). -/
def execLdAA (s : State) : Result :=
  execLdRegReg .A .A s

end Sys2Proof.Machine
end

