-- ==== Sys2Proof/Machine/LoadWord.lean ====
section
/-! DEFINITION. Word loads (43_load_word.md): LD BC/DE/HL/SP,d16. No form reads or writes a flag (R180). -/

namespace Sys2Proof.Machine

/-- `LD rr,d16` for a register pair (R181 to R183): the high byte to the first-named register. -/
def execLdPair (p : PairView) (imm : Word) (s : State) : Result :=
  .next (advance 3 12 (setPair p imm s))

/-- `LD SP,d16` (R184), the only instruction that writes SP. -/
def execLdSp (imm : Word) (s : State) : Result :=
  .next (advance 3 12 (setSp imm s))

/-- `LD BC,d16` (R181). -/
def execLdBCD16 (imm : Word) (s : State) : Result :=
  execLdPair .BC imm s

/-- `LD DE,d16` (R182). -/
def execLdDED16 (imm : Word) (s : State) : Result :=
  execLdPair .DE imm s

/-- `LD HL,d16` (R183). -/
def execLdHLD16 (imm : Word) (s : State) : Result :=
  execLdPair .HL imm s

/-- `LD SP,d16` (R184). -/
def execLdSPD16 (imm : Word) (s : State) : Result :=
  execLdSp imm s

end Sys2Proof.Machine
end

