-- ==== Sys2Proof/Machine/StoreA.lean ====
section
/-!
DEFINITION. Stores of A (44_store_indirect.md): LD (BC),A, LD (DE),A, LD (HL+),A, LD (HL-),A, LD (a16),A
and LD (C),A. The write comes first; if it raises UnmappedWrite, HL and PC keep their values (R190).
-/

namespace Sys2Proof.Machine

/-- `LD (BC),A` (R191). -/
def execLdBCIndA (s : State) : Result :=
  execStore (getPair .BC s) s.a (advance 1 8) s

/-- `LD (DE),A` (R192). -/
def execLdDEIndA (s : State) : Result :=
  execStore (getPair .DE s) s.a (advance 1 8) s

/-- `LD (HL+),A` (R193). -/
def execLdHLIncA (s : State) : Result :=
  execStore (getPair .HL s) s.a (fun t => advance 1 8 (setPair .HL (getPair .HL s + 1#16) t)) s

/-- `LD (HL-),A` (R194). -/
def execLdHLDecA (s : State) : Result :=
  execStore (getPair .HL s) s.a (fun t => advance 1 8 (setPair .HL (getPair .HL s - 1#16) t)) s

/-- `LD (C),A` (R196). -/
def execLdCIndA (s : State) : Result :=
  execStore (highPage s.c) s.a (advance Params.highPageStoreLen 8) s

/-- `LD (a16),A` (R195). -/
def execLdA16IndA (imm : Word) (s : State) : Result :=
  execStore imm s.a (advance 3 16) s

end Sys2Proof.Machine
end

