-- ==== Sys2Proof/WellFormed.lean ====
section
/-!
DEFINITION. Well-formedness: R97's two conditions on an instruction value. `Instr` has one constructor
per row of the opcode table, so no `Instr` breaks them (Laws/PerInstr.lean proves it of each); the
values that do are ill-formed terms of `Value`, and no row of the table has one.
-/

namespace Sys2Proof

/-- R97: `LD_BYTE` is "never (HLI, HLI)" (R93), and a bit index is 0 to 7. -/
def Value.wellFormed : Value → Bool
  | .ldByte .hli (.operand .hli) => false
  | .bit index _ => decide (index < 8)
  | _ => true

/-- An instruction is well-formed when its value is. -/
def Instr.wellFormed (i : Instr) : Bool :=
  i.value.wellFormed

end Sys2Proof
end

