-- ==== Sys2Proof/Decode.lean ====
section
/-!
DEFINITION. The decoder and, after it, the encoder (30_encoding.md). The decoder reads the opcode
byte by the fields of R81 and the code tables of R83, R84, R85; the encoder is written from the rows
of opcode_table.json, so the two are independent readings of one map. The opcode numbers are the
spec's decision D1 (log entry 1).
-/

namespace Sys2Proof

/-- The prefix byte 0xCB (R91). -/
def prefixByte : Byte := 0xCB#8

/-- The byte the encoder puts where LD (C),A skips one (R98). DESIGN CHOICE, log entry 17. -/
def padByte : Byte := 0x00#8

/-- The operand a 3-bit code names (R83). -/
def operandOf : Nat → Operand8
  | 0 => .reg .B
  | 1 => .reg .C
  | 2 => .reg .D
  | 3 => .reg .E
  | 4 => .reg .H
  | 5 => .reg .L
  | 6 => .hli
  | _ => .reg .A

/-- The code of a register (R83). -/
def regCode : Reg8 → Nat
  | .B => 0
  | .C => 1
  | .D => 2
  | .E => 3
  | .H => 4
  | .L => 5
  | .A => 7

/-- The code of an operand (R83). -/
def operandCode : Operand8 → Nat
  | .reg r => regCode r
  | .hli => 6

/-- The pair a 2-bit code names (R84). -/
def pairOf : Nat → Pair16
  | 0 => .BC
  | 1 => .DE
  | 2 => .HL
  | _ => .SP

/-- The operation a 3-bit code names (R85). -/
def aluOf : Nat → AluOp
  | 0 => .add
  | 1 => .adc
  | 2 => .sub
  | 3 => .sbc
  | 4 => .and
  | 5 => .xor
  | 6 => .or
  | _ => .cp

/-- The store form a 2-bit code names: `sd` of R81. -/
def storeDestOf : Nat → StoreDest
  | 0 => .bci
  | 1 => .dei
  | 2 => .hliInc
  | _ => .hld

/-- `decode(byte, prefixed)` of R82, by the field table of R81. `none` is "no assigned instruction". -/
def decodeByte (b : Byte) (prefixed : Bool) : Option Value :=
  if prefixed then
    if fieldX b = 1 then some (.bit (fieldY b) (operandOf (fieldZ b))) else none
  else if fieldX b = 2 then
    some (.alu (aluOf (fieldY b)) (operandOf (fieldZ b)))
  else if fieldX b = 1 then
    if fieldY b = 6 ∧ fieldZ b = 6 then none
    else some (.ldByte (operandOf (fieldY b)) (.operand (operandOf (fieldZ b))))
  else if fieldX b = 0 ∧ fieldZ b = 6 then
    some (.ldByte (operandOf (fieldY b)) .d8)
  else if fieldX b = 0 ∧ fieldZ b = 1 ∧ fieldQ b = 0 then
    some (.ldWord (pairOf (fieldP b)))
  else if fieldX b = 0 ∧ fieldZ b = 2 ∧ fieldQ b = 0 then
    some (.stA (storeDestOf (fieldP b)))
  else if b = 0xEA#8 then some (.stA .a16)
  else if b = 0xE2#8 then some (.stA .highC)
  else none

/-- The row of an arithmetic or logic value. -/
def Instr.ofAlu (op : AluOp) (s : Operand8) : Instr :=
  match op with
  | .add =>
    match s with
    | .reg .B => .addAB
    | .reg .C => .addAC
    | .reg .D => .addAD
    | .reg .E => .addAE
    | .reg .H => .addAH
    | .reg .L => .addAL
    | .hli => .addAHLInd
    | .reg .A => .addAA
  | .adc =>
    match s with
    | .reg .B => .adcAB
    | .reg .C => .adcAC
    | .reg .D => .adcAD
    | .reg .E => .adcAE
    | .reg .H => .adcAH
    | .reg .L => .adcAL
    | .hli => .adcAHLInd
    | .reg .A => .adcAA
  | .sub =>
    match s with
    | .reg .B => .subB
    | .reg .C => .subC
    | .reg .D => .subD
    | .reg .E => .subE
    | .reg .H => .subH
    | .reg .L => .subL
    | .hli => .subHLInd
    | .reg .A => .subA
  | .sbc =>
    match s with
    | .reg .B => .sbcAB
    | .reg .C => .sbcAC
    | .reg .D => .sbcAD
    | .reg .E => .sbcAE
    | .reg .H => .sbcAH
    | .reg .L => .sbcAL
    | .hli => .sbcAHLInd
    | .reg .A => .sbcAA
  | .and =>
    match s with
    | .reg .B => .andB
    | .reg .C => .andC
    | .reg .D => .andD
    | .reg .E => .andE
    | .reg .H => .andH
    | .reg .L => .andL
    | .hli => .andHLInd
    | .reg .A => .andA
  | .xor =>
    match s with
    | .reg .B => .xorB
    | .reg .C => .xorC
    | .reg .D => .xorD
    | .reg .E => .xorE
    | .reg .H => .xorH
    | .reg .L => .xorL
    | .hli => .xorHLInd
    | .reg .A => .xorA
  | .or =>
    match s with
    | .reg .B => .orB
    | .reg .C => .orC
    | .reg .D => .orD
    | .reg .E => .orE
    | .reg .H => .orH
    | .reg .L => .orL
    | .hli => .orHLInd
    | .reg .A => .orA
  | .cp =>
    match s with
    | .reg .B => .cpB
    | .reg .C => .cpC
    | .reg .D => .cpD
    | .reg .E => .cpE
    | .reg .H => .cpH
    | .reg .L => .cpL
    | .hli => .cpHLInd
    | .reg .A => .cpA

/-- The row of `LD r,r'` (R161). -/
def Instr.ofLdRR (t s : Reg8) : Instr :=
  match t with
  | .B =>
    match s with
    | .B => .ldBB
    | .C => .ldBC
    | .D => .ldBD
    | .E => .ldBE
    | .H => .ldBH
    | .L => .ldBL
    | .A => .ldBA
  | .C =>
    match s with
    | .B => .ldCB
    | .C => .ldCC
    | .D => .ldCD
    | .E => .ldCE
    | .H => .ldCH
    | .L => .ldCL
    | .A => .ldCA
  | .D =>
    match s with
    | .B => .ldDB
    | .C => .ldDC
    | .D => .ldDD
    | .E => .ldDE
    | .H => .ldDH
    | .L => .ldDL
    | .A => .ldDA
  | .E =>
    match s with
    | .B => .ldEB
    | .C => .ldEC
    | .D => .ldED
    | .E => .ldEE
    | .H => .ldEH
    | .L => .ldEL
    | .A => .ldEA
  | .H =>
    match s with
    | .B => .ldHB
    | .C => .ldHC
    | .D => .ldHD
    | .E => .ldHE
    | .H => .ldHH
    | .L => .ldHL
    | .A => .ldHA
  | .L =>
    match s with
    | .B => .ldLB
    | .C => .ldLC
    | .D => .ldLD
    | .E => .ldLE
    | .H => .ldLH
    | .L => .ldLL
    | .A => .ldLA
  | .A =>
    match s with
    | .B => .ldAB
    | .C => .ldAC
    | .D => .ldAD
    | .E => .ldAE
    | .H => .ldAH
    | .L => .ldAL
    | .A => .ldAA

/-- The row of `LD r,(HL)` (R162). -/
def Instr.ofLdRHL : Reg8 → Instr
  | .B => .ldBHLInd
  | .C => .ldCHLInd
  | .D => .ldDHLInd
  | .E => .ldEHLInd
  | .H => .ldHHLInd
  | .L => .ldLHLInd
  | .A => .ldAHLInd

/-- The row of `LD (HL),r` (R163). -/
def Instr.ofLdHLR : Reg8 → Instr
  | .B => .ldHLIndB
  | .C => .ldHLIndC
  | .D => .ldHLIndD
  | .E => .ldHLIndE
  | .H => .ldHLIndH
  | .L => .ldHLIndL
  | .A => .ldHLIndA

/-- The row of `LD r,d8` (R164). -/
def Instr.ofLdRD8 (t : Reg8) (imm : Byte) : Instr :=
  match t with
  | .B => .ldBD8 imm
  | .C => .ldCD8 imm
  | .D => .ldDD8 imm
  | .E => .ldED8 imm
  | .H => .ldHD8 imm
  | .L => .ldLD8 imm
  | .A => .ldAD8 imm

/-- The row of a word load (R180). -/
def Instr.ofLdWord (rr : Pair16) (imm : Word) : Instr :=
  match rr with
  | .BC => .ldBCD16 imm
  | .DE => .ldDED16 imm
  | .HL => .ldHLD16 imm
  | .SP => .ldSPD16 imm

/-- The row of a store of A (R190); only the a16 form has an immediate. -/
def Instr.ofStA (dest : StoreDest) (imm : Word) : Instr :=
  match dest with
  | .bci => .ldBCIndA
  | .dei => .ldDEIndA
  | .hliInc => .ldHLIncA
  | .hld => .ldHLDecA
  | .highC => .ldCIndA
  | .a16 => .ldA16IndA imm

/-- The row of a bit test (R210). -/
def Instr.ofBit (index : Fin 8) (s : Operand8) : Instr :=
  match index.val with
  | 0 =>
    match s with
    | .reg .B => .bit0B
    | .reg .C => .bit0C
    | .reg .D => .bit0D
    | .reg .E => .bit0E
    | .reg .H => .bit0H
    | .reg .L => .bit0L
    | .hli => .bit0HLInd
    | .reg .A => .bit0A
  | 1 =>
    match s with
    | .reg .B => .bit1B
    | .reg .C => .bit1C
    | .reg .D => .bit1D
    | .reg .E => .bit1E
    | .reg .H => .bit1H
    | .reg .L => .bit1L
    | .hli => .bit1HLInd
    | .reg .A => .bit1A
  | 2 =>
    match s with
    | .reg .B => .bit2B
    | .reg .C => .bit2C
    | .reg .D => .bit2D
    | .reg .E => .bit2E
    | .reg .H => .bit2H
    | .reg .L => .bit2L
    | .hli => .bit2HLInd
    | .reg .A => .bit2A
  | 3 =>
    match s with
    | .reg .B => .bit3B
    | .reg .C => .bit3C
    | .reg .D => .bit3D
    | .reg .E => .bit3E
    | .reg .H => .bit3H
    | .reg .L => .bit3L
    | .hli => .bit3HLInd
    | .reg .A => .bit3A
  | 4 =>
    match s with
    | .reg .B => .bit4B
    | .reg .C => .bit4C
    | .reg .D => .bit4D
    | .reg .E => .bit4E
    | .reg .H => .bit4H
    | .reg .L => .bit4L
    | .hli => .bit4HLInd
    | .reg .A => .bit4A
  | 5 =>
    match s with
    | .reg .B => .bit5B
    | .reg .C => .bit5C
    | .reg .D => .bit5D
    | .reg .E => .bit5E
    | .reg .H => .bit5H
    | .reg .L => .bit5L
    | .hli => .bit5HLInd
    | .reg .A => .bit5A
  | 6 =>
    match s with
    | .reg .B => .bit6B
    | .reg .C => .bit6C
    | .reg .D => .bit6D
    | .reg .E => .bit6E
    | .reg .H => .bit6H
    | .reg .L => .bit6L
    | .hli => .bit6HLInd
    | .reg .A => .bit6A
  | _ =>
    match s with
    | .reg .B => .bit7B
    | .reg .C => .bit7C
    | .reg .D => .bit7D
    | .reg .E => .bit7E
    | .reg .H => .bit7H
    | .reg .L => .bit7L
    | .hli => .bit7HLInd
    | .reg .A => .bit7A

/-- The instruction of a value and the two bytes that follow its opcode (R86, R87: `d0` is the first,
the low byte). `none` only for the values that are not well-formed. -/
def Instr.ofValue? (v : Value) (d0 d1 : Byte) : Option Instr :=
  match v with
  | .alu op s => some (.ofAlu op s)
  | .ldByte (.reg t) (.operand (.reg s)) => some (.ofLdRR t s)
  | .ldByte (.reg t) (.operand .hli) => some (.ofLdRHL t)
  | .ldByte .hli (.operand (.reg s)) => some (.ofLdHLR s)
  | .ldByte .hli (.operand .hli) => none
  | .ldByte (.reg t) .d8 => some (.ofLdRD8 t d0)
  | .ldByte .hli .d8 => some (.ldHLIndD8 d0)
  | .ldWord rr => some (.ofLdWord rr (join d1 d0))
  | .stA dest => some (.ofStA dest (join d1 d0))
  | .bit index s => if h : index < 8 then some (.ofBit ⟨index, h⟩ s) else none

/-- What a decode failure carries: the byte that was looked up and the table (R112). -/
structure Illegal where
  byte : Byte
  prefixed : Bool
deriving DecidableEq, Repr

/-- Look a byte up in one table and attach the bytes after it. -/
def lookup (b : Byte) (prefixed : Bool) (d0 d1 : Byte) : Except Illegal Instr :=
  match (decodeByte b prefixed).bind (fun v => Instr.ofValue? v d0 d1) with
  | some i => .ok i
  | none => .error ⟨b, prefixed⟩

/-- The instruction that begins with `b0`, the two bytes after it being `b1` and `b2`: R91's choice of
table. Bytes an instruction does not have are not looked at (log entry 10). -/
def decodeWindow (b0 b1 b2 : Byte) : Except Illegal Instr :=
  if b0 = prefixByte then lookup b1 true 0#8 0#8 else lookup b0 false b1 b2

/-- The format of a value (R80, R81). -/
def Value.format : Value → Format
  | .alu _ _ => .op
  | .ldByte _ (.operand _) => .op
  | .ldByte _ .d8 => .opD8
  | .ldWord _ => .opD16
  | .stA .a16 => .opD16
  | .stA .highC => .opPad
  | .stA _ => .op
  | .bit _ _ => .cbOp

/-- The bytes of each format (R80). -/
def Format.length : Format → Nat
  | .op => 1
  | .opD8 => 2
  | .opD16 => 3
  | .opPad => 2
  | .cbOp => 2

/-- The length of an instruction in bytes: 1, 2 or 3 (R80, R90). -/
def Instr.length (i : Instr) : Nat :=
  i.value.format.length

/-- Why a list of bytes does not decode: an unassigned entry (R92), or too few bytes. -/
inductive Reject where
  /-- No table entry for the byte (R92). -/
  | illegalOpcode (byte : Byte) (prefixed : Bool)
  /-- The list ends inside the instruction; a step never sees this, since it fetches from the bus. -/
  | truncated
deriving DecidableEq, Repr

/-- The decoder on any list of bytes: the instruction at its front and the bytes after it. -/
def decode (bytes : List Byte) : Except Reject (Instr × List Byte) :=
  match bytes with
  | [] => .error .truncated
  | b0 :: rest =>
    if b0 = prefixByte ∧ rest.isEmpty = true then .error .truncated
    else
      match decodeWindow b0 (rest.getD 0 0#8) (rest.getD 1 0#8) with
      | .error e => .error (.illegalOpcode e.byte e.prefixed)
      | .ok i => if i.length ≤ bytes.length then .ok (i, bytes.drop i.length) else .error .truncated

/-- Byte `k` of a table word of `nbits` bits: bit 0 is the least significant bit of the first byte, and
every bit from `nbits` on is 0. -/
def tableByte (nbits w k : Nat) : Byte :=
  BitVec.ofNat 8 (w % 2 ^ nbits / 256 ^ k)

/-- What the decoder reads from an instruction whose bits are `w`, laid out from its first byte. -/
def decodeTableWord (nbits w : Nat) : Option Instr :=
  match decodeWindow (tableByte nbits w 0) (tableByte nbits w 1) (tableByte nbits w 2) with
  | .ok i => some i
  | .error _ => none

/-- The bytes of an instruction, from its row of opcode_table.json and its format (R80). -/
def encode : Instr → List Byte
  | .ldBCD16 imm => [0x01#8, loByte imm, hiByte imm]
  | .ldBCIndA => [0x02#8]
  | .ldBD8 imm => [0x06#8, imm]
  | .ldCD8 imm => [0x0E#8, imm]
  | .ldDED16 imm => [0x11#8, loByte imm, hiByte imm]
  | .ldDEIndA => [0x12#8]
  | .ldDD8 imm => [0x16#8, imm]
  | .ldED8 imm => [0x1E#8, imm]
  | .ldHLD16 imm => [0x21#8, loByte imm, hiByte imm]
  | .ldHLIncA => [0x22#8]
  | .ldHD8 imm => [0x26#8, imm]
  | .ldLD8 imm => [0x2E#8, imm]
  | .ldSPD16 imm => [0x31#8, loByte imm, hiByte imm]
  | .ldHLDecA => [0x32#8]
  | .ldHLIndD8 imm => [0x36#8, imm]
  | .ldAD8 imm => [0x3E#8, imm]
  | .ldBB => [0x40#8]
  | .ldBC => [0x41#8]
  | .ldBD => [0x42#8]
  | .ldBE => [0x43#8]
  | .ldBH => [0x44#8]
  | .ldBL => [0x45#8]
  | .ldBHLInd => [0x46#8]
  | .ldBA => [0x47#8]
  | .ldCB => [0x48#8]
  | .ldCC => [0x49#8]
  | .ldCD => [0x4A#8]
  | .ldCE => [0x4B#8]
  | .ldCH => [0x4C#8]
  | .ldCL => [0x4D#8]
  | .ldCHLInd => [0x4E#8]
  | .ldCA => [0x4F#8]
  | .ldDB => [0x50#8]
  | .ldDC => [0x51#8]
  | .ldDD => [0x52#8]
  | .ldDE => [0x53#8]
  | .ldDH => [0x54#8]
  | .ldDL => [0x55#8]
  | .ldDHLInd => [0x56#8]
  | .ldDA => [0x57#8]
  | .ldEB => [0x58#8]
  | .ldEC => [0x59#8]
  | .ldED => [0x5A#8]
  | .ldEE => [0x5B#8]
  | .ldEH => [0x5C#8]
  | .ldEL => [0x5D#8]
  | .ldEHLInd => [0x5E#8]
  | .ldEA => [0x5F#8]
  | .ldHB => [0x60#8]
  | .ldHC => [0x61#8]
  | .ldHD => [0x62#8]
  | .ldHE => [0x63#8]
  | .ldHH => [0x64#8]
  | .ldHL => [0x65#8]
  | .ldHHLInd => [0x66#8]
  | .ldHA => [0x67#8]
  | .ldLB => [0x68#8]
  | .ldLC => [0x69#8]
  | .ldLD => [0x6A#8]
  | .ldLE => [0x6B#8]
  | .ldLH => [0x6C#8]
  | .ldLL => [0x6D#8]
  | .ldLHLInd => [0x6E#8]
  | .ldLA => [0x6F#8]
  | .ldHLIndB => [0x70#8]
  | .ldHLIndC => [0x71#8]
  | .ldHLIndD => [0x72#8]
  | .ldHLIndE => [0x73#8]
  | .ldHLIndH => [0x74#8]
  | .ldHLIndL => [0x75#8]
  | .ldHLIndA => [0x77#8]
  | .ldAB => [0x78#8]
  | .ldAC => [0x79#8]
  | .ldAD => [0x7A#8]
  | .ldAE => [0x7B#8]
  | .ldAH => [0x7C#8]
  | .ldAL => [0x7D#8]
  | .ldAHLInd => [0x7E#8]
  | .ldAA => [0x7F#8]
  | .addAB => [0x80#8]
  | .addAC => [0x81#8]
  | .addAD => [0x82#8]
  | .addAE => [0x83#8]
  | .addAH => [0x84#8]
  | .addAL => [0x85#8]
  | .addAHLInd => [0x86#8]
  | .addAA => [0x87#8]
  | .adcAB => [0x88#8]
  | .adcAC => [0x89#8]
  | .adcAD => [0x8A#8]
  | .adcAE => [0x8B#8]
  | .adcAH => [0x8C#8]
  | .adcAL => [0x8D#8]
  | .adcAHLInd => [0x8E#8]
  | .adcAA => [0x8F#8]
  | .subB => [0x90#8]
  | .subC => [0x91#8]
  | .subD => [0x92#8]
  | .subE => [0x93#8]
  | .subH => [0x94#8]
  | .subL => [0x95#8]
  | .subHLInd => [0x96#8]
  | .subA => [0x97#8]
  | .sbcAB => [0x98#8]
  | .sbcAC => [0x99#8]
  | .sbcAD => [0x9A#8]
  | .sbcAE => [0x9B#8]
  | .sbcAH => [0x9C#8]
  | .sbcAL => [0x9D#8]
  | .sbcAHLInd => [0x9E#8]
  | .sbcAA => [0x9F#8]
  | .andB => [0xA0#8]
  | .andC => [0xA1#8]
  | .andD => [0xA2#8]
  | .andE => [0xA3#8]
  | .andH => [0xA4#8]
  | .andL => [0xA5#8]
  | .andHLInd => [0xA6#8]
  | .andA => [0xA7#8]
  | .xorB => [0xA8#8]
  | .xorC => [0xA9#8]
  | .xorD => [0xAA#8]
  | .xorE => [0xAB#8]
  | .xorH => [0xAC#8]
  | .xorL => [0xAD#8]
  | .xorHLInd => [0xAE#8]
  | .xorA => [0xAF#8]
  | .orB => [0xB0#8]
  | .orC => [0xB1#8]
  | .orD => [0xB2#8]
  | .orE => [0xB3#8]
  | .orH => [0xB4#8]
  | .orL => [0xB5#8]
  | .orHLInd => [0xB6#8]
  | .orA => [0xB7#8]
  | .cpB => [0xB8#8]
  | .cpC => [0xB9#8]
  | .cpD => [0xBA#8]
  | .cpE => [0xBB#8]
  | .cpH => [0xBC#8]
  | .cpL => [0xBD#8]
  | .cpHLInd => [0xBE#8]
  | .cpA => [0xBF#8]
  | .ldCIndA => [0xE2#8, padByte]
  | .ldA16IndA imm => [0xEA#8, loByte imm, hiByte imm]
  | .bit0B => [0xCB#8, 0x40#8]
  | .bit0C => [0xCB#8, 0x41#8]
  | .bit0D => [0xCB#8, 0x42#8]
  | .bit0E => [0xCB#8, 0x43#8]
  | .bit0H => [0xCB#8, 0x44#8]
  | .bit0L => [0xCB#8, 0x45#8]
  | .bit0HLInd => [0xCB#8, 0x46#8]
  | .bit0A => [0xCB#8, 0x47#8]
  | .bit1B => [0xCB#8, 0x48#8]
  | .bit1C => [0xCB#8, 0x49#8]
  | .bit1D => [0xCB#8, 0x4A#8]
  | .bit1E => [0xCB#8, 0x4B#8]
  | .bit1H => [0xCB#8, 0x4C#8]
  | .bit1L => [0xCB#8, 0x4D#8]
  | .bit1HLInd => [0xCB#8, 0x4E#8]
  | .bit1A => [0xCB#8, 0x4F#8]
  | .bit2B => [0xCB#8, 0x50#8]
  | .bit2C => [0xCB#8, 0x51#8]
  | .bit2D => [0xCB#8, 0x52#8]
  | .bit2E => [0xCB#8, 0x53#8]
  | .bit2H => [0xCB#8, 0x54#8]
  | .bit2L => [0xCB#8, 0x55#8]
  | .bit2HLInd => [0xCB#8, 0x56#8]
  | .bit2A => [0xCB#8, 0x57#8]
  | .bit3B => [0xCB#8, 0x58#8]
  | .bit3C => [0xCB#8, 0x59#8]
  | .bit3D => [0xCB#8, 0x5A#8]
  | .bit3E => [0xCB#8, 0x5B#8]
  | .bit3H => [0xCB#8, 0x5C#8]
  | .bit3L => [0xCB#8, 0x5D#8]
  | .bit3HLInd => [0xCB#8, 0x5E#8]
  | .bit3A => [0xCB#8, 0x5F#8]
  | .bit4B => [0xCB#8, 0x60#8]
  | .bit4C => [0xCB#8, 0x61#8]
  | .bit4D => [0xCB#8, 0x62#8]
  | .bit4E => [0xCB#8, 0x63#8]
  | .bit4H => [0xCB#8, 0x64#8]
  | .bit4L => [0xCB#8, 0x65#8]
  | .bit4HLInd => [0xCB#8, 0x66#8]
  | .bit4A => [0xCB#8, 0x67#8]
  | .bit5B => [0xCB#8, 0x68#8]
  | .bit5C => [0xCB#8, 0x69#8]
  | .bit5D => [0xCB#8, 0x6A#8]
  | .bit5E => [0xCB#8, 0x6B#8]
  | .bit5H => [0xCB#8, 0x6C#8]
  | .bit5L => [0xCB#8, 0x6D#8]
  | .bit5HLInd => [0xCB#8, 0x6E#8]
  | .bit5A => [0xCB#8, 0x6F#8]
  | .bit6B => [0xCB#8, 0x70#8]
  | .bit6C => [0xCB#8, 0x71#8]
  | .bit6D => [0xCB#8, 0x72#8]
  | .bit6E => [0xCB#8, 0x73#8]
  | .bit6H => [0xCB#8, 0x74#8]
  | .bit6L => [0xCB#8, 0x75#8]
  | .bit6HLInd => [0xCB#8, 0x76#8]
  | .bit6A => [0xCB#8, 0x77#8]
  | .bit7B => [0xCB#8, 0x78#8]
  | .bit7C => [0xCB#8, 0x79#8]
  | .bit7D => [0xCB#8, 0x7A#8]
  | .bit7E => [0xCB#8, 0x7B#8]
  | .bit7H => [0xCB#8, 0x7C#8]
  | .bit7L => [0xCB#8, 0x7D#8]
  | .bit7HLInd => [0xCB#8, 0x7E#8]
  | .bit7A => [0xCB#8, 0x7F#8]

end Sys2Proof
end

