-- ==== Sys2Proof/Machine/Fetch.lean ====
section
/-!
DEFINITION. Fetch and decode at PC (40_step_cycle.md R110, R111), and placing an instruction where the next
step fetches it.
-/

namespace Sys2Proof.Machine

/-- The bytes at PC decoded (R91, R110). The bus reads are total and without side effect (R48), so reading
three bytes for an instruction of one or two is not observable (log entry 10). -/
def fetchDecode (s : State) : Except Illegal Instr :=
  decodeWindow (busRead s s.pc) (busRead s (s.pc + 1#16)) (busRead s (s.pc + 2#16))

/-- A step whose byte has no table entry raises `IllegalOpcode` (R112, R223). -/
def illegalStep (e : Illegal) (s : State) : Result :=
  .next (raise (.illegalOpcode e.byte e.prefixed) s)

/-- Whether some byte of the state is what a read of the address returns. -/
def backed (s : State) (a : Word) : Bool :=
  (overlayAt s a).isSome || isStored (regionOf (cellOf a))

/-- Put a byte where a read of the address finds it, from outside the machine: the overlay image, an image
byte or a RAM byte. No instruction does this. -/
def poke (a : Word) (v : Byte) (s : State) : State :=
  match overlayAt s a with
  | some image => { s with boot := some (Memory.write image a.toNat v) }
  | none => if isStored (regionOf (cellOf a)) then storeByte (cellOf a) v s else s

/-- Place three bytes at PC of a running core. PC moves to 0x0000 only if one of the three addresses has no
byte behind it (log entry 21). -/
def placeWindow (b0 b1 b2 : Byte) (s : State) : State :=
  let t := { s with run := .running }
  let t := if backed t t.pc && backed t (t.pc + 1#16) && backed t (t.pc + 2#16) then t
    else { t with pc := 0x0000#16 }
  poke t.pc b0 (poke (t.pc + 1#16) b1 (poke (t.pc + 2#16) b2 t))

end Sys2Proof.Machine
end

