-- ==== Sys2Proof/Machine/Step.lean ====
section
/-! DEFINITION. One step (40_step_cycle.md R110): fetch, decode, execute. -/

namespace Sys2Proof.Machine

/-- `step()` of R110; a halted core takes none (R119). -/
def step (s : State) : Host.Outcome State Fault Refusal :=
  match s.run with
  | .halted _ => haltedStep s
  | .running =>
    match fetchDecode s with
    | .ok i => exec i s
    | .error e => illegalStep e s

/-- The state with the instruction whose bits are `w` placed where the next step fetches (log entry 21). -/
def State.withFetchWord (s : State) (nbits w : Nat) : State :=
  placeWindow (tableByte nbits w 0) (tableByte nbits w 1) (tableByte nbits w 2) s

end Sys2Proof.Machine
end

