-- ==== Sys2Proof/Machine/HostInterface.lean ====
section
/-!
DEFINITION. What the host can do (00_scope.md R3, R4; 20_memory.md R47; 70_reset_and_hazards.md R250):
construct the machine, ask for a step, and disable the boot overlay between steps.
-/

namespace Sys2Proof.Machine

/-- The stored bytes of an image or buffer whose first byte has the given key, in canonical form. -/
def Memory.ofBytes : Nat → List Byte → Memory
  | _, [] => []
  | base, v :: rest =>
    if v = Params.unlistedByte then Memory.ofBytes (base + 1) rest
    else (base, v) :: Memory.ofBytes (base + 1) rest

/-- The spec's `construct` (R250). A longer cartridge image is accepted and its bytes from 0x8000 on are
unused (R49, D23). `InvalidImageSize` (R222) is a refusal: no machine exists. The three RAM contents and
SP are arguments, as D8 and D9 leave them (log entry 24). -/
def construct (boot : Option (List Byte)) (cart : List Byte)
    (cram : Vector Byte Config.cramSize) (iram : Vector Byte Config.iramSize)
    (zram : Vector Byte Config.zramSize) (sp : Word) : Result :=
  if boot.any (fun image => image.length != Config.bootSize) then .refused .invalidImageSize
  else if cart.length < Config.cartMinSize then .refused .invalidImageSize
  else
    .next { State.reset with
      sp := sp
      overlayEnabled := boot.isSome
      boot := boot.map (Memory.ofBytes 0)
      mem := Memory.ofBytes 0x0000 (cart.take Config.cartMinSize)
        ++ (Memory.ofBytes 0xA000 cram.toList
          ++ (Memory.ofBytes 0xC000 iram.toList
            ++ Memory.ofBytes 0xFF80 zram.toList)) }

/-- The host action of R47: clear `overlay_enabled` and change nothing else (D16, log entry 15). -/
def disableOverlay (s : State) : State :=
  { s with overlayEnabled := false }

/-- What the host may do between steps (R3). -/
inductive HostAction where
  | step
  | disableOverlay
deriving DecidableEq, Repr

/-- One host action; both are allowed in every state, halted ones too. -/
def act : HostAction → State → Result
  | .step, s => step s
  | .disableOverlay, s => .next (disableOverlay s)

/-- A sequence of host actions, stopping where there is no next state. -/
def hostRun : List HostAction → State → Result
  | [], s => .next s
  | x :: rest, s =>
    match act x s with
    | .next t => hostRun rest t
    | .fault r => .fault r
    | .refused r => .refused r

end Sys2Proof.Machine
end

