-- ==== Sys2Proof/Safety.lean ====
section
/-!
DEFINITION. The terms claims are stated in: the invariant of the machine, a safe step (one that does not
halt the core), several steps, and states that agree in all but one output or register.
-/

namespace Sys2Proof.Machine

/-- An image is in canonical form and holds nothing at or above `size`. -/
def imageOk (image : Memory) (size : Nat) : Prop :=
  Memory.wf image ∧ ∀ x ∈ image, x.1 < size

/-- The stored bytes are in canonical form and every one stands in ROM or one of the three RAM buffers, the
only storage there is (R41, `90_conflicts.md` C5). -/
def memOk (m : Memory) : Prop :=
  Memory.wf m ∧ ∀ x ∈ m, x.1 < 65536 ∧ isStored (regionOf (BitVec.ofNat 16 x.1)) = true

/-- A condition the core can be halted with: an opcode the decoder has no entry for (R223), or a write to
0xFFFF or to Echo RAM (R224). -/
def conditionOk : Condition → Prop
  | .illegalOpcode byte prefixed => decodeByte byte prefixed = none
  | .unmappedWrite addr _ => regionOf addr = .interruptEnable ∨ regionOf addr = .echoRam

/-- What holds of the state at every step boundary. -/
structure Inv (s : State) : Prop where
  /-- The stored bytes are canonical and lie where there is storage. -/
  mem : memOk s.mem
  /-- So are the overlay image's 256 (R49). -/
  boot : ∀ image, s.boot = some image → imageOk image 256
  /-- An enabled overlay has an image (R21). -/
  overlay : s.overlayEnabled = true → s.boot.isSome = true
  /-- A halted core holds a condition that can occur, and no count was returned (R20, R263). -/
  run : ∀ cond, s.run = .halted cond → conditionOk cond ∧ s.cycles = none
  /-- A returned count is one of the values in use (R117). -/
  cycles : ∀ n, s.cycles = some n → n = 4 ∨ n = 8 ∨ n = 12 ∨ n = 16

/-- A step that leaves the core running. -/
def safeStep (s : State) : Prop :=
  ∃ t, step s = .next t ∧ t.run = .running

/-- `k` steps. -/
def steps : Nat → State → Result
  | 0, s => .next s
  | k + 1, s =>
    match step s with
    | .next t => steps k t
    | .fault r => .fault r
    | .refused r => .refused r

/-- The addresses of the three RAM buffers (R41, R51). -/
abbrev isRam (a : Word) : Prop :=
  (0xA000 ≤ a.toNat ∧ a.toNat ≤ 0xDFFF) ∨ (0xFF80 ≤ a.toNat ∧ a.toNat ≤ 0xFFFE)

/-- The addresses a write to which raises nothing (R50): all but Echo RAM and 0xFFFF. -/
abbrev acceptsWrite (a : Word) : Prop :=
  a.toNat ≤ 0xDFFF ∨ (0xFE00 ≤ a.toNat ∧ a.toNat ≤ 0xFFFE)

/-- The stored bytes after an accepted write: one byte stored in RAM, nothing kept elsewhere. -/
def memAfterWrite (a : Word) (v : Byte) (s : State) : Memory :=
  if isRam a then Memory.write s.mem a.toNat v else s.mem

/-- The addresses that show the byte at `a`: `a` itself, and the Echo RAM address 0x2000 above it (R45). -/
def shows (a x : Word) : Prop :=
  x = a ∨ (0xE000 ≤ x.toNat ∧ x.toNat ≤ 0xFDFF ∧ x.toNat = a.toNat + 0x2000)

/-- Every address reads as before. -/
def sameReads (s t : State) : Prop :=
  ∀ x, busRead t x = busRead s x

/-- Every address reads as before but those that show the byte at `a`. -/
def sameReadsExcept (a : Word) (s t : State) : Prop :=
  ∀ x, ¬ shows a x → busRead t x = busRead s x

/-- The cycle count of each form: the table of R263. -/
def formCycles : Value → Nat
  | .alu _ (.reg _) => 4
  | .alu _ .hli => 8
  | .ldByte (.reg _) (.operand (.reg _)) => 4
  | .ldByte _ _ => 8
  | .ldWord _ => 12
  | .stA .a16 => 16
  | .stA _ => 8
  | .bit _ (.reg _) => 8
  | .bit _ .hli => 12

/-- The PC advance of each form: the table of R263. -/
def formLength : Value → Nat
  | .alu _ _ => 1
  | .ldByte _ (.operand _) => 1
  | .ldByte _ .d8 => 2
  | .ldWord _ => 3
  | .stA .a16 => 3
  | .stA .highC => 2
  | .stA _ => 1
  | .bit _ _ => 2

end Sys2Proof.Machine
end

