-- ==== Sys2Proof/Certificates/Slice0/Obligations.lean ====
section
/-!
DEFINITION. The statements for the provers, from the numbered rules of spec/. Where a statement's text is
the rule's own, results are written over integers as the rule writes them, not by the model's functions.
A step-time condition's effect is written out: `run` halted with the condition, no count returned, and
everything else as it was.
-/

open Sys2Proof Sys2Proof.Machine

/-! ### Encoding and decoding -/

/-- Decode and encode agree on every instruction and every value of its operands, whatever follows it. The
byte values are the spec's decision D1 (log entry 1), that all 64 bit tests exist D3 (log entry 2), the length
of LD (C),A D18 and its skipped byte's value the model's choice (log entry 17). -/
def Obligations.EncodeThenDecodeGivesInstruction : Prop :=
  ∀ (i : Instr) (rest : List Byte), decode (encode i ++ rest) = .ok (i, rest)

/-- Whatever decodes is the encoding of what it decodes to, except that LD (C),A may have any second byte
(R98): no two byte strings of the other rows stand for one instruction. The byte values are the spec's
decision D1 (log entry 1), that all 64 bit tests exist D3 (log entry 2), and the length of LD (C),A D18 (log
entry 17). -/
def Obligations.DecodedBytesAreTheEncoding : Prop :=
  ∀ (bytes : List Byte) (i : Instr) (rest : List Byte), decode bytes = .ok (i, rest) →
    bytes = encode i ++ rest ∨ (i = .ldCIndA ∧ ∃ pad, bytes = 0xE2#8 :: pad :: rest)

/-- Words written out from the spec's own decode vectors (E1 to E23 of 95_test_vectors.md), each family and
two unassigned entries. The byte values are the spec's decision D1 (log entry 1), the unassigned ones D2 and
D26 (log entry 2), the length of LD (C),A D18 (log entry 17). -/
def Obligations.SampleWordsDecodeAsTheTableSays : Prop :=
  decode [0x80#8] = .ok (.addAB, []) ∧
  decode [0x8E#8] = .ok (.adcAHLInd, []) ∧
  decode [0x97#8] = .ok (.subA, []) ∧
  decode [0x9B#8] = .ok (.sbcAE, []) ∧
  decode [0xA4#8] = .ok (.andH, []) ∧
  decode [0xAF#8] = .ok (.xorA, []) ∧
  decode [0xB1#8] = .ok (.orC, []) ∧
  decode [0xBE#8] = .ok (.cpHLInd, []) ∧
  decode [0x46#8] = .ok (.ldBHLInd, []) ∧
  decode [0x70#8] = .ok (.ldHLIndB, []) ∧
  decode [0x36#8, 0x0F#8] = .ok (.ldHLIndD8 0x0F#8, []) ∧
  decode [0x31#8, 0x00#8, 0xFF#8] = .ok (.ldSPD16 0xFF00#16, []) ∧
  decode [0x32#8] = .ok (.ldHLDecA, []) ∧
  decode [0xEA#8, 0x00#8, 0xA0#8] = .ok (.ldA16IndA 0xA000#16, []) ∧
  decode [0xE2#8, 0xFF#8] = .ok (.ldCIndA, []) ∧
  decode [0xCB#8, 0x7C#8] = .ok (.bit7H, []) ∧
  decode [0xCB#8, 0x76#8] = .ok (.bit6HLInd, []) ∧
  decode [0x76#8] = .error (.illegalOpcode 0x76#8 false) ∧
  decode [0xCB#8, 0xCB#8] = .error (.illegalOpcode 0xCB#8 true)

/-- The assigned entries of the two tables are the 145 and the 64 of the map, and no other (D1, D2, D3, D26;
log entries 1 and 2). -/
def Obligations.AssignedBytesAreExactlyTheMap : Prop :=
  ∀ b : Byte,
    (decodeByte b false ≠ none ↔
      (0x40 ≤ b.toNat ∧ b.toNat ≤ 0xBF ∧ b ≠ 0x76#8) ∨
      b ∈ [0x01#8, 0x11#8, 0x21#8, 0x31#8, 0x02#8, 0x12#8, 0x22#8, 0x32#8, 0xE2#8, 0xEA#8,
        0x06#8, 0x0E#8, 0x16#8, 0x1E#8, 0x26#8, 0x2E#8, 0x36#8, 0x3E#8]) ∧
    (decodeByte b true ≠ none ↔ 0x40 ≤ b.toNat ∧ b.toNat ≤ 0x7F)

/-- The prefix byte makes the next byte the one looked up, in the second table; any other first byte is looked
up in the first (R91); what the table gives is the decoded instruction's value. An empty entry is a failure
that carries the byte looked up (R112, by the spec's decision D25, log entry 20), and 0xCB itself has no entry
in the second table, which R91 derives from R81. -/
def Obligations.PrefixByteSelectsTheSecondTable : Prop :=
  ∀ s : State,
    (busRead s s.pc = 0xCB#8 →
      (decodeByte (busRead s (s.pc + 1#16)) true = none →
        fetchDecode s = .error ⟨busRead s (s.pc + 1#16), true⟩) ∧
      (∀ v, decodeByte (busRead s (s.pc + 1#16)) true = some v →
        ∃ i, fetchDecode s = .ok i ∧ i.value = v)) ∧
    (busRead s s.pc ≠ 0xCB#8 →
      (decodeByte (busRead s s.pc) false = none → fetchDecode s = .error ⟨busRead s s.pc, false⟩) ∧
      (∀ v, decodeByte (busRead s s.pc) false = some v → ∃ i, fetchDecode s = .ok i ∧ i.value = v)) ∧
    decodeByte 0xCB#8 true = none

/-- The immediate of a fetched instruction is the byte after its opcode, or the two bytes after it, low byte
first, never extended (R86, R87). The opcode bytes, R88's, are the spec's decision D1 (log entry 1). -/
def Obligations.ImmediatesAreTheBytesAfterTheOpcode : Prop :=
  ∀ s : State,
    let lo := busRead s (s.pc + 1#16)
    let hi := busRead s (s.pc + 2#16)
    let imm16 := BitVec.ofNat 16 (hi.toNat * 256 + lo.toNat)
    (∀ t : Reg8, busRead s s.pc = BitVec.ofNat 8 (0x06 + 8 * regCode t) →
      fetchDecode s = .ok (.ofLdRD8 t lo)) ∧
    (busRead s s.pc = 0x36#8 → fetchDecode s = .ok (.ldHLIndD8 lo)) ∧
    (busRead s s.pc = 0x01#8 → fetchDecode s = .ok (.ldBCD16 imm16)) ∧
    (busRead s s.pc = 0x11#8 → fetchDecode s = .ok (.ldDED16 imm16)) ∧
    (busRead s s.pc = 0x21#8 → fetchDecode s = .ok (.ldHLD16 imm16)) ∧
    (busRead s s.pc = 0x31#8 → fetchDecode s = .ok (.ldSPD16 imm16)) ∧
    (busRead s s.pc = 0xEA#8 → fetchDecode s = .ok (.ldA16IndA imm16))

/-! ### The step -/

/-- A running core's step is `exec` of the instruction that the bytes at PC decode to, and nothing around it;
bytes that decode to none halt the core with the byte looked up (its payload is the spec's decision D25, log
entry 20). -/
def Obligations.StepFetchesDecodesExecutes : Prop :=
  ∀ s : State, s.run = .running →
    (∀ i, decodeWindow (busRead s s.pc) (busRead s (s.pc + 1#16)) (busRead s (s.pc + 2#16)) = .ok i →
      step s = exec i s) ∧
    (∀ b p, decodeWindow (busRead s s.pc) (busRead s (s.pc + 1#16)) (busRead s (s.pc + 2#16)) =
        .error ⟨b, p⟩ →
      step s = .next { s with run := .halted (.illegalOpcode b p), cycles := none })

/-- A byte with no table entry halts the core with that byte and the table's flag; nothing else changes, and the
step hands back the condition instead of a count (R223; which bytes these are is D2, log entry 2, and that the
byte after the prefix is the one carried is D25, log entry 20). -/
def Obligations.IllegalOpcodeHaltsUnchanged : Prop :=
  ∀ s : State, s.run = .running →
    (busRead s s.pc ≠ 0xCB#8 → decodeByte (busRead s s.pc) false = none →
      ∃ t, step s = .next t ∧
        t = { s with run := .halted (.illegalOpcode (busRead s s.pc) false), cycles := none } ∧
        t.report = .condition (.illegalOpcode (busRead s s.pc) false)) ∧
    (busRead s s.pc = 0xCB#8 → decodeByte (busRead s (s.pc + 1#16)) true = none →
      ∃ t, step s = .next t ∧
        t = { s with run := .halted (.illegalOpcode (busRead s (s.pc + 1#16)) true), cycles := none } ∧
        t.report = .condition (.illegalOpcode (busRead s (s.pc + 1#16)) true))

/-- A halted core stays halted with its condition whatever the host does; step requests change nothing, and
only `disable_overlay` changes anything, the overlay bit (D15, D16; log entries 8 and 15). -/
def Obligations.HaltedCoreStaysHalted : Prop :=
  ∀ (s : State) (cond : Condition) (acts : List HostAction), s.run = .halted cond →
    ∃ t, hostRun acts s = .next t ∧ t = { s with overlayEnabled := t.overlayEnabled } ∧
      (HostAction.disableOverlay ∉ acts → t = s)

/-- Every step answers a next state, and one that halts a running core changes nothing else (D14, log
entry 20). -/
def Obligations.FailingStepChangesOnlyTheRunState : Prop :=
  ∀ s : State, ∃ t, step s = .next t ∧
    (s.run = .running → t.run ≠ .running → t = { s with run := t.run, cycles := none })

/-- A step that begins in Video RAM, OAM, the unused range, the I/O range or at 0xFFFF halts on
IllegalOpcode(0x00, false), as R111 derives. It rests on these regions reading 0x00 (D13, log entry 12) and on
0x00 being unassigned (D2, log entry 2). -/
def Obligations.FetchFromPlaceholderIsIllegal : Prop :=
  ∀ s : State, s.run = .running →
    ((0x8000 ≤ s.pc.toNat ∧ s.pc.toNat ≤ 0x9FFF) ∨ (0xFE00 ≤ s.pc.toNat ∧ s.pc.toNat ≤ 0xFF7F) ∨
      s.pc = 0xFFFF#16) →
    step s = .next { s with run := .halted (.illegalOpcode 0x00#8 false), cycles := none }

/-- A successful step advances PC by the length of the instruction it fetched, 1, 2 or 3, modulo 65536, and a
failing one leaves it (R17, R116). The wrap is R18's by the spec's decision D10 (log entry 18); the lengths of
BIT and LD (C),A are D4's and D18's (log entries 19 and 17). -/
def Obligations.PcAdvancesByInstructionLength : Prop :=
  ∀ s t : State, s.run = .running → step s = .next t →
    (t.run = .running ∧ ∃ i, fetchDecode s = .ok i ∧ 1 ≤ i.length ∧ i.length ≤ 3 ∧
      t.pc.toNat = (s.pc.toNat + i.length) % 65536) ∨
    (t.run ≠ .running ∧ t.pc = s.pc)

/-- The table of R263: the count and the PC advance of every form, and none for a step that fails. The
counts of BIT are D5's, its advance D4's, LD (HL),d8 is D17's and LD (C),A D18's (log entries 17, 19, 23). -/
def Obligations.CycleCountAndLengthByForm : Prop :=
  ∀ (i : Instr) (s t : State), s.run = .running → exec i s = .next t →
    i.length = formLength i.value ∧
    (t.run = .running → t.cycles = some (formCycles i.value) ∧
      t.pc = s.pc + BitVec.ofNat 16 (formLength i.value)) ∧
    (t.run ≠ .running → t.cycles = none ∧ t.pc = s.pc)

/-- R121's derivation: from every running state, whatever memory holds, the core halts within 65536 steps. It
rests on the placeholder regions reading 0x00 (D13, log entry 12) and on 0x00 being unassigned (D2). -/
def Obligations.EveryRunReachesAFailingStep : Prop :=
  ∀ s : State, s.run = .running →
    ∃ k t, k ≤ 65536 ∧ steps k s = .next t ∧ t.run ≠ .running

/-- No step's effect depends on SP or on the count the last step returned: SP passes through unless the
step loads it, and a running core's step overwrites the count. -/
def Obligations.StepIgnoresSpAndCycleCount : Prop :=
  (∀ (s : State) (w : Word), ∃ t, step s = .next t ∧
    ((t.sp = s.sp ∧ step { s with sp := w } = .next { t with sp := w }) ∨
      step { s with sp := w } = .next t)) ∧
  (∀ (s : State) (c : Option Nat), s.run = .running → step { s with cycles := c } = step s)

/-! ### Registers and flags -/

/-- R12: the packed flags byte, its reverse, and the two round trips. -/
def Obligations.FlagsPackAndUnpack : Prop :=
  ∀ (f : Flags) (v : Byte),
    f.toByte.toNat = f.z.toNat * 0x80 + f.n.toNat * 0x40 + f.h.toNat * 0x20 + f.c.toNat * 0x10 ∧
    Flags.fromByte v = ⟨v.getLsbD 7, v.getLsbD 6, v.getLsbD 5, v.getLsbD 4⟩ ∧
    Flags.fromByte f.toByte = f ∧
    (Flags.fromByte v).toByte = v &&& 0xF0#8

/-- R14 and R114: the pairs are the two registers side by side, the first-named high, AF's low byte the packed
flags; an 8-bit operand is its register, or for HLI a bus read at HL. -/
def Obligations.PairAndOperandReads : Prop :=
  ∀ s : State,
    getPair .BC s = s.b ++ s.c ∧
    getPair .DE s = s.d ++ s.e ∧
    getPair .HL s = s.h ++ s.l ∧
    getPair .AF s = s.a ++ s.flags.toByte ∧
    operandRead (.reg .A) s = s.a ∧
    operandRead (.reg .B) s = s.b ∧
    operandRead (.reg .C) s = s.c ∧
    operandRead (.reg .D) s = s.d ∧
    operandRead (.reg .E) s = s.e ∧
    operandRead (.reg .H) s = s.h ∧
    operandRead (.reg .L) s = s.l ∧
    operandRead .hli s = busRead s (s.h ++ s.l)

/-- R15's formulas: a pair write puts the high byte in the first-named register and the low byte in the second;
reading the pair back gives the word, and for AF the word without its low four bits (conflict C2). -/
def Obligations.PairWritesReadBack : Prop :=
  ∀ (s : State) (w : Word),
    setPair .BC w s = { s with
      b := BitVec.ofNat 8 (w.toNat / 256), c := BitVec.ofNat 8 (w.toNat % 256) } ∧
    setPair .DE w s = { s with
      d := BitVec.ofNat 8 (w.toNat / 256), e := BitVec.ofNat 8 (w.toNat % 256) } ∧
    setPair .HL w s = { s with
      h := BitVec.ofNat 8 (w.toNat / 256), l := BitVec.ofNat 8 (w.toNat % 256) } ∧
    setPair .AF w s = { s with
      a := BitVec.ofNat 8 (w.toNat / 256)
      flags := ⟨w.getLsbD 7, w.getLsbD 6, w.getLsbD 5, w.getLsbD 4⟩ } ∧
    getPair .BC (setPair .BC w s) = w ∧
    getPair .DE (setPair .DE w s) = w ∧
    getPair .HL (setPair .HL w s) = w ∧
    getPair .AF (setPair .AF w s) = w &&& 0xFFF0#16

/-! ### The bus -/

/-- The read of every address, line by line (R43). The Echo RAM line's offset is the spec's decision D20 (R45,
log entry 14), the placeholders' zeros are R46's and D13's (log entry 12). -/
def Obligations.BusReadFollowsTheMap : Prop :=
  ∀ (s : State) (a : Word),
    (∀ image, s.overlayEnabled = true → s.boot = some image → a.toNat ≤ 0x00FF →
      busRead s a = Memory.read image a.toNat) ∧
    ((s.overlayEnabled = false ∨ 0x00FF < a.toNat) →
      busRead s a =
        if a.toNat ≤ 0x7FFF then Memory.read s.mem a.toNat
        else if a.toNat ≤ 0x9FFF then 0x00#8
        else if a.toNat ≤ 0xBFFF then Memory.read s.mem a.toNat
        else if a.toNat ≤ 0xDFFF then Memory.read s.mem a.toNat
        else if a.toNat ≤ 0xFDFF then Memory.read s.mem (a.toNat - 0x2000)
        else if a.toNat ≤ 0xFE9F then 0x00#8
        else if a.toNat ≤ 0xFEFF then 0x00#8
        else if a.toNat ≤ 0xFF7F then 0x00#8
        else if a.toNat ≤ 0xFFFE then Memory.read s.mem a.toNat
        else 0x00#8)

/-- R44: while the overlay is enabled its byte is read from 0x0000 to 0x00FF and not ROM bank 0's, which the
same read returns once the overlay is disabled; reads from 0x0100 on are never affected, and fetch is the
same read. -/
def Obligations.OverlayHasPriorityOverRom : Prop :=
  ∀ (s : State) (image : Memory) (a : Word), s.boot = some image → s.overlayEnabled = true →
    (a.toNat ≤ 0x00FF →
      busRead s a = Memory.read image a.toNat ∧
      busRead { s with overlayEnabled := false } a = Memory.read s.mem a.toNat) ∧
    (0x0100 ≤ a.toNat → busRead { s with overlayEnabled := false } a = busRead s a) ∧
    fetchDecode s = decodeWindow (busRead s s.pc) (busRead s (s.pc + 1#16)) (busRead s (s.pc + 2#16))

/-- Echo RAM reads as internal RAM 0x2000 below it, and a write to internal RAM is seen by the next echo read
(the offset is the spec's decision D20, log entry 14). -/
def Obligations.EchoRamReadsItsMirror : Prop :=
  ∀ (s : State) (a : Word), memOk s.mem → 0xE000 ≤ a.toNat → a.toNat ≤ 0xFDFF →
    busRead s a = busRead s (a - 0x2000#16) ∧
    ∀ v, ∃ t, busWrite (a - 0x2000#16) v s = .ok t ∧ busRead t a = v

/-- R46 and R61: Video RAM, OAM, the I/O range and 0xFFFF read 0x00 in every state, so whatever was written
there before; the unused range reads 0x00 and a write to it changes nothing. -/
def Obligations.PlaceholdersAndUnusedRangeReadZero : Prop :=
  ∀ (s : State) (a : Word) (v : Byte),
    ((0x8000 ≤ a.toNat ∧ a.toNat ≤ 0x9FFF) ∨ (0xFE00 ≤ a.toNat ∧ a.toNat ≤ 0xFE9F) ∨
      (0xFF00 ≤ a.toNat ∧ a.toNat ≤ 0xFF7F) ∨ a = 0xFFFF#16 → busRead s a = 0x00#8) ∧
    (0xFEA0 ≤ a.toNat ∧ a.toNat ≤ 0xFEFF → busRead s a = 0x00#8 ∧ busWrite a v s = .ok s)

/-- The write of every address, line by line, under any Echo RAM policy (R50). That ROM keeps nothing is R52's
by the spec's decision D19, that Video RAM, OAM and the I/O range keep nothing is R62's by D12 (log entry 13),
and the Echo RAM line is R54's. -/
def Obligations.BusWriteFollowsTheMap : Prop :=
  ∀ (policy : EchoWritePolicy) (a : Word) (v : Byte) (s : State),
    busWriteUnder policy a v s =
      if a.toNat ≤ 0x7FFF then .ok s
      else if a.toNat ≤ 0x9FFF then .ok s
      else if a.toNat ≤ 0xBFFF then .ok { s with mem := Memory.write s.mem a.toNat v }
      else if a.toNat ≤ 0xDFFF then .ok { s with mem := Memory.write s.mem a.toNat v }
      else if a.toNat ≤ 0xFDFF then echoWrite policy a v s
      else if a.toNat ≤ 0xFE9F then .ok s
      else if a.toNat ≤ 0xFEFF then .ok s
      else if a.toNat ≤ 0xFF7F then .ok s
      else if a.toNat ≤ 0xFFFE then .ok { s with mem := Memory.write s.mem a.toNat v }
      else .error (.unmappedWrite 0xFFFF#16 v)

/-- The three values of ECHO_WRITE_POLICY, and that this hardware's write takes the first (R54). The choice is
the spec's decision D11 (log entry 11), the offset of the write through D20 (log entry 14). -/
def Obligations.EchoWritePolicies : Prop :=
  ∀ (a : Word) (v : Byte) (s : State), 0xE000 ≤ a.toNat → a.toNat ≤ 0xFDFF →
    busWriteUnder .unmappedWrite a v s = .error (.unmappedWrite a v) ∧
    busWriteUnder .writeThrough a v s = .ok { s with mem := Memory.write s.mem (a.toNat - 0x2000) v } ∧
    busWriteUnder .noOp a v s = .ok s ∧
    busWrite a v s = busWriteUnder .unmappedWrite a v s

/-- A write to RAM stores the byte, the next read of the address returns it, and no address but those that
show that one byte reads otherwise than before; and no write to another address, in any state, changes what
the address reads as (R51). Which addresses show it rests on Echo RAM's offset, the spec's decision D20 (R45,
log entry 14); the last clause on a write to Echo RAM storing nothing, the policy of D11 (R54, log entry 11).
-/
def Obligations.WrittenByteReadsBack : Prop :=
  ∀ (a : Word), isRam a →
    (∀ (s : State) (v : Byte), memOk s.mem →
      ∃ t, busWrite a v s = .ok t ∧ busRead t a = v ∧ sameReadsExcept a s t) ∧
    (∀ (s t : State) (b : Word) (w : Byte), b ≠ a → busWrite b w s = .ok t → busRead t a = busRead s a)

/-- Two canonical stores that read alike are the same list (the model's own form, log entry 3). -/
def Obligations.CanonicalStoresThatReadAlikeAreEqual : Prop :=
  ∀ m n : Memory, Memory.wf m → Memory.wf n → (∀ k, Memory.read m k = Memory.read n k) → m = n

/-! ### Arithmetic and logic. `v` is the operand's value (R114). -/

/-- ADD A,s, for the eight operands (R131; PC and cycles R130). The opcode byte is the spec's decision D1 (log
entry 1). -/
def Obligations.AddResultAndFlags : Prop :=
  ∀ (src : Operand8) (s : State),
    let v := operandRead src s
    let sum := s.a.toNat + v.toNat
    encode (.ofAlu .add src) = [BitVec.ofNat 8 (0x80 + operandCode src)] ∧
    exec (.ofAlu .add src) s = .next { s with
      a := BitVec.ofNat 8 (sum % 256)
      flags := ⟨decide (sum % 256 = 0), false, decide (s.a.toNat % 16 + v.toNat % 16 > 0x0F),
        decide (sum > 0xFF)⟩
      pc := s.pc + 1#16
      cycles := some (if src = .hli then 8 else 4) }

/-- ADC A,s, for the eight operands (R132; PC and cycles R130). The opcode byte is the spec's decision D1 (log
entry 1). -/
def Obligations.AdcResultAndFlags : Prop :=
  ∀ (src : Operand8) (s : State),
    let v := operandRead src s
    let cin := s.flags.c.toNat
    let sum := s.a.toNat + v.toNat + cin
    encode (.ofAlu .adc src) = [BitVec.ofNat 8 (0x88 + operandCode src)] ∧
    exec (.ofAlu .adc src) s = .next { s with
      a := BitVec.ofNat 8 (sum % 256)
      flags := ⟨decide (sum % 256 = 0), false, decide (s.a.toNat % 16 + v.toNat % 16 + cin > 0x0F),
        decide (sum > 0xFF)⟩
      pc := s.pc + 1#16
      cycles := some (if src = .hli then 8 else 4) }

/-- SUB s, for the eight operands (R133; PC and cycles R130). The opcode byte is the spec's decision D1 (log
entry 1). -/
def Obligations.SubResultAndFlags : Prop :=
  ∀ (src : Operand8) (s : State),
    let v := operandRead src s
    let res := if s.a.toNat ≥ v.toNat then s.a.toNat - v.toNat else s.a.toNat + 256 - v.toNat
    encode (.ofAlu .sub src) = [BitVec.ofNat 8 (0x90 + operandCode src)] ∧
    exec (.ofAlu .sub src) s = .next { s with
      a := BitVec.ofNat 8 res
      flags := ⟨decide (res = 0), true, decide (s.a.toNat % 16 < v.toNat % 16),
        decide (s.a.toNat < v.toNat)⟩
      pc := s.pc + 1#16
      cycles := some (if src = .hli then 8 else 4) }

/-- SBC A,s, for the eight operands; the right-hand sides of the comparisons are integers (R134; PC and cycles
R130). The opcode byte is the spec's decision D1 (log entry 1). -/
def Obligations.SbcResultAndFlags : Prop :=
  ∀ (src : Operand8) (s : State),
    let v := operandRead src s
    let cin := s.flags.c.toNat
    let res := (s.a.toNat + 512 - v.toNat - cin) % 256
    encode (.ofAlu .sbc src) = [BitVec.ofNat 8 (0x98 + operandCode src)] ∧
    exec (.ofAlu .sbc src) s = .next { s with
      a := BitVec.ofNat 8 res
      flags := ⟨decide (res = 0), true, decide (s.a.toNat % 16 < v.toNat % 16 + cin),
        decide (s.a.toNat < v.toNat + cin)⟩
      pc := s.pc + 1#16
      cycles := some (if src = .hli then 8 else 4) }

/-- AND s, for the eight operands (R135; PC and cycles R130). The opcode byte is the spec's decision D1 (log
entry 1). -/
def Obligations.AndResultAndFlags : Prop :=
  ∀ (src : Operand8) (s : State),
    let res := s.a &&& operandRead src s
    encode (.ofAlu .and src) = [BitVec.ofNat 8 (0xA0 + operandCode src)] ∧
    exec (.ofAlu .and src) s = .next { s with
      a := res
      flags := ⟨decide (res = 0#8), false, true, false⟩
      pc := s.pc + 1#16
      cycles := some (if src = .hli then 8 else 4) }

/-- XOR s, for the eight operands (R136). That the zero flag is the result's and not the operand's is the spec's
decision D21 (log entry 23); the opcode byte is D1's (log entry 1). -/
def Obligations.XorResultAndFlags : Prop :=
  ∀ (src : Operand8) (s : State),
    let res := s.a ^^^ operandRead src s
    encode (.ofAlu .xor src) = [BitVec.ofNat 8 (0xA8 + operandCode src)] ∧
    exec (.ofAlu .xor src) s = .next { s with
      a := res
      flags := ⟨decide (res = 0#8), false, false, false⟩
      pc := s.pc + 1#16
      cycles := some (if src = .hli then 8 else 4) }

/-- OR s, for the eight operands (R137; PC and cycles R130). The opcode byte is the spec's decision D1 (log
entry 1). -/
def Obligations.OrResultAndFlags : Prop :=
  ∀ (src : Operand8) (s : State),
    let res := s.a ||| operandRead src s
    encode (.ofAlu .or src) = [BitVec.ofNat 8 (0xB0 + operandCode src)] ∧
    exec (.ofAlu .or src) s = .next { s with
      a := res
      flags := ⟨decide (res = 0#8), false, false, false⟩
      pc := s.pc + 1#16
      cycles := some (if src = .hli then 8 else 4) }

/-- CP s, for the eight operands; A is not written (R138; PC and cycles R130). The opcode byte is the spec's
decision D1 (log entry 1). -/
def Obligations.CpFlagsOnly : Prop :=
  ∀ (src : Operand8) (s : State),
    let v := operandRead src s
    encode (.ofAlu .cp src) = [BitVec.ofNat 8 (0xB8 + operandCode src)] ∧
    exec (.ofAlu .cp src) s = .next { s with
      flags := ⟨decide (s.a = v), true, decide (s.a.toNat % 16 < v.toNat % 16),
        decide (s.a.toNat < v.toNat)⟩
      pc := s.pc + 1#16
      cycles := some (if src = .hli then 8 else 4) }

/-- R140's derivation: the source's two-stage composition gives the same result and carry as ADC and SBC, for
every accumulator, operand and carry. -/
def Obligations.TwoStageCarryAgrees : Prop :=
  ∀ (a v : Byte) (c : Bool),
    let r1 := BitVec.ofNat 8 (a.toNat + v.toNat)
    let o1 := decide (a.toNat + v.toNat > 0xFF)
    let o2 := decide (r1.toNat + c.toNat > 0xFF)
    let q1 := a - v
    let u1 := decide (a.toNat < v.toNat)
    let u2 := decide (q1.toNat < c.toNat)
    (aluAdc a v c).res = BitVec.ofNat 8 (r1.toNat + c.toNat) ∧ (aluAdc a v c).flags.c = (o1 || o2) ∧
    (aluSbc a v c).res = q1 - BitVec.ofNat 8 c.toNat ∧ (aluSbc a v c).flags.c = (u1 || u2)

/-! ### Loads -/

/-- LD r,r' for the 49 pairs of registers (R161). The opcode byte and the register codes are the spec's
decision D1 (log entry 1). -/
def Obligations.LoadRegisterFromRegister : Prop :=
  ∀ (t src : Reg8) (s : State),
    encode (.ofLdRR t src) = [BitVec.ofNat 8 (0x40 + 8 * regCode t + regCode src)] ∧
    exec (.ofLdRR t src) s = .next { setReg t (getReg src s) s with
      pc := s.pc + 1#16
      cycles := some 4 }

/-- LD r,(HL) for the seven registers; the address is formed from the old H and L (R162). The opcode byte is
the spec's decision D1 (log entry 1). -/
def Obligations.LoadRegisterFromMemory : Prop :=
  ∀ (t : Reg8) (s : State),
    encode (.ofLdRHL t) = [BitVec.ofNat 8 (0x46 + 8 * regCode t)] ∧
    exec (.ofLdRHL t) s = .next { setReg t (busRead s (s.h ++ s.l)) s with
      pc := s.pc + 1#16
      cycles := some 8 }

/-- LD r,d8 for the seven registers and every immediate (R164). The opcode byte is the spec's decision D1 (log
entry 1). -/
def Obligations.LoadRegisterImmediate : Prop :=
  ∀ (t : Reg8) (imm : Byte) (s : State),
    encode (.ofLdRD8 t imm) = [BitVec.ofNat 8 (0x06 + 8 * regCode t), imm] ∧
    exec (.ofLdRD8 t imm) s = .next { setReg t imm s with
      pc := s.pc + 2#16
      cycles := some 8 }

/-- LD (HL),r for the seven registers and LD (HL),d8 complete at every address that takes a write, and store
the byte where there is RAM (R163, R165). Of this, the opcode bytes are the spec's decision D1 (log entry 1),
that writes outside RAM are accepted and keep nothing is D12 and D19 (log entry 13), and that Echo RAM does
not accept them is D11 (log entry 11); the advance of LD (HL),d8 is D17 (log entry 23). -/
def Obligations.LoadMemoryCompletesWhereWritesAreAccepted : Prop :=
  ∀ s : State, acceptsWrite (s.h ++ s.l) →
    (∀ src : Reg8,
      encode (.ofLdHLR src) = [BitVec.ofNat 8 (0x70 + regCode src)] ∧
      exec (.ofLdHLR src) s = .next { s with
        mem := memAfterWrite (s.h ++ s.l) (getReg src s) s
        pc := s.pc + 1#16
        cycles := some 8 }) ∧
    (∀ imm : Byte,
      encode (.ldHLIndD8 imm) = [0x36#8, imm] ∧
      exec (.ldHLIndD8 imm) s = .next { s with
        mem := memAfterWrite (s.h ++ s.l) imm s
        pc := s.pc + 2#16
        cycles := some 8 })

/-- LD BC,d16, LD DE,d16 and LD HL,d16 (R180, R181, R182, R183). The opcode bytes are the spec's decision D1
(log entry 1). -/
def Obligations.LoadPairImmediate : Prop :=
  ∀ (lo hi : Byte) (s : State),
    encode (.ldBCD16 (hi ++ lo)) = [0x01#8, lo, hi] ∧
    exec (.ldBCD16 (hi ++ lo)) s = .next { s with
      b := hi, c := lo, pc := s.pc + 3#16, cycles := some 12 } ∧
    encode (.ldDED16 (hi ++ lo)) = [0x11#8, lo, hi] ∧
    exec (.ldDED16 (hi ++ lo)) s = .next { s with
      d := hi, e := lo, pc := s.pc + 3#16, cycles := some 12 } ∧
    encode (.ldHLD16 (hi ++ lo)) = [0x21#8, lo, hi] ∧
    exec (.ldHLD16 (hi ++ lo)) s = .next { s with
      h := hi, l := lo, pc := s.pc + 3#16, cycles := some 12 }

/-- LD SP,d16 (R184), and that it is the only instruction after which SP can differ (R19). The opcode byte is
the spec's decision D1 (log entry 1). -/
def Obligations.OnlyLoadSpWritesSp : Prop :=
  (∀ (lo hi : Byte) (s : State),
    encode (.ldSPD16 (hi ++ lo)) = [0x31#8, lo, hi] ∧
    exec (.ldSPD16 (hi ++ lo)) s = .next { s with
      sp := hi ++ lo, pc := s.pc + 3#16, cycles := some 12 }) ∧
  (∀ (i : Instr) (s t : State), exec i s = .next t → t.sp ≠ s.sp → ∃ imm, i = .ldSPD16 imm)

/-! ### Stores of A -/

/-- LD (BC),A, LD (DE),A and LD (a16),A complete at every address that takes a write, and store A where there
is RAM (R190, R191, R192, R195). Of this, the opcode bytes are the spec's decision D1 (log entry 1), that
writes outside RAM are accepted and keep nothing is D12 and D19 (log entry 13), and that Echo RAM does not
accept them is D11 (log entry 11). -/
def Obligations.StoreAToPairOrAbsoluteAddress : Prop :=
  ∀ s : State,
    encode .ldBCIndA = [0x02#8] ∧
    (acceptsWrite (s.b ++ s.c) → exec .ldBCIndA s = .next { s with
      mem := memAfterWrite (s.b ++ s.c) s.a s, pc := s.pc + 1#16, cycles := some 8 }) ∧
    encode .ldDEIndA = [0x12#8] ∧
    (acceptsWrite (s.d ++ s.e) → exec .ldDEIndA s = .next { s with
      mem := memAfterWrite (s.d ++ s.e) s.a s, pc := s.pc + 1#16, cycles := some 8 }) ∧
    ∀ lo hi : Byte,
      encode (.ldA16IndA (hi ++ lo)) = [0xEA#8, lo, hi] ∧
      (acceptsWrite (hi ++ lo) → exec (.ldA16IndA (hi ++ lo)) s = .next { s with
        mem := memAfterWrite (hi ++ lo) s.a s, pc := s.pc + 3#16, cycles := some 16 })

/-- LD (HL+),A and LD (HL-),A store at the old HL where the address takes a write, and then step HL modulo
65536 (R190, R193, R194). Of this, the opcode bytes are the spec's decision D1 (log entry 1), that writes
outside RAM are accepted and keep nothing is D12 and D19 (log entry 13), and that Echo RAM does not accept
them is D11 (log entry 11); the wrap is D10 (log entry 18). -/
def Obligations.StoreAAndStepHl : Prop :=
  ∀ s : State,
    let up := (256 * s.h.toNat + s.l.toNat + 1) % 65536
    let down := (256 * s.h.toNat + s.l.toNat + 65535) % 65536
    encode .ldHLIncA = [0x22#8] ∧ encode .ldHLDecA = [0x32#8] ∧
    (acceptsWrite (s.h ++ s.l) →
      exec .ldHLIncA s = .next { s with
        mem := memAfterWrite (s.h ++ s.l) s.a s
        h := BitVec.ofNat 8 (up / 256), l := BitVec.ofNat 8 (up % 256)
        pc := s.pc + 1#16, cycles := some 8 } ∧
      exec .ldHLDecA s = .next { s with
        mem := memAfterWrite (s.h ++ s.l) s.a s
        h := BitVec.ofNat 8 (down / 256), l := BitVec.ofNat 8 (down % 256)
        pc := s.pc + 1#16, cycles := some 8 })

/-- LD (C),A stores at 0xFF00 + C for every C but 0xFF, and skips the byte after its opcode, whatever it is
(R190, R196, R98). Of this, the byte 0xE2 is the spec's decision D1 (log entry 1), the length D18 (log entry
17), that a write to the I/O range keeps nothing D12 (log entry 13), and what the halt at C = 0xFF carries and
leaves D14 (log entry 20). -/
def Obligations.StoreAToHighPage : Prop :=
  ∀ s : State,
    (∀ d0 d1 : Byte, decodeWindow 0xE2#8 d0 d1 = .ok .ldCIndA) ∧
    (s.c ≠ 0xFF#8 → exec .ldCIndA s = .next { s with
      mem := if 0x80 ≤ s.c.toNat then Memory.write s.mem (0xFF00 + s.c.toNat) s.a else s.mem
      pc := s.pc + 2#16, cycles := some 8 }) ∧
    (s.c = 0xFF#8 → exec .ldCIndA s = .next { s with
      run := .halted (.unmappedWrite 0xFFFF#16 s.a), cycles := none })

/-- Each of the fourteen encodings that write memory, storing to 0xFFFF, raises UnmappedWrite(0xFFFF, v) with
v the byte it would store, changes nothing else and halts the core; so does the bus write alone (R53, R224).
That the condition carries address and value, and that the failing step changes nothing else, are the spec's
decision D14 (log entry 20). -/
def Obligations.StoreToInterruptEnableHalts : Prop :=
  (∀ (v : Byte) (s : State), busWrite 0xFFFF#16 v s = .error (.unmappedWrite 0xFFFF#16 v)) ∧
  (∀ (i : Instr) (s : State), storeAddress i s = some 0xFFFF#16 →
    exec i s = .next { s with
      run := .halted (.unmappedWrite 0xFFFF#16 (storeValue i s)), cycles := none })

/-- A store to Echo RAM raises UnmappedWrite(addr, v), changes nothing else and halts the core (R54, R224).
The policy is the spec's decision D11 (log entry 11), and what the condition carries and leaves is D14 (log
entry 20). -/
def Obligations.StoreToEchoRamHalts : Prop :=
  ∀ (i : Instr) (s : State) (a : Word), storeAddress i s = some a →
    0xE000 ≤ a.toNat → a.toNat ≤ 0xFDFF →
    exec i s = .next { s with
      run := .halted (.unmappedWrite a (storeValue i s)), cycles := none }

/-! ### Bit test -/

/-- BIT b,r and BIT b,(HL), all 64: z from the designated bit, n and h fixed, c kept, PC by 2, 8 or 12 cycles
(R210, R211, R212). Of this, the encoding is the spec's decision D1 (log entry 1), that all 64 pairs exist D3
(log entry 2), and the polarity, the advance and the counts D6, D4 and D5 (log entry 19). -/
def Obligations.BitTestFlags : Prop :=
  ∀ (index : Fin 8) (src : Operand8) (s : State),
    encode (.ofBit index src) = [0xCB#8, BitVec.ofNat 8 (0x40 + 8 * index.val + operandCode src)] ∧
    exec (.ofBit index src) s = .next { s with
      flags := ⟨decide ((operandRead src s).toNat / 2 ^ index.val % 2 = 0), false, true, s.flags.c⟩
      pc := s.pc + 2#16
      cycles := some (if src = .hli then 12 else 8) }

/-! ### Frames and rules over all instructions -/

/-- The forms that store nothing (arithmetic and logic, loads into a register or SP, BIT): every byte of memory
reads as before, the run state, the overlay bit and the images are as before, and every register is as before
but A (all operations but CP), the target of a byte load, the two registers of a word load, and SP for LD
SP,d16. -/
def Obligations.RegisterFormFrame : Prop :=
  ∀ (i : Instr) (s t : State), storeAddress i s = none → exec i s = .next t →
    sameReads s t ∧ t.mem = s.mem ∧ t.run = s.run ∧ t.overlayEnabled = s.overlayEnabled ∧
    t.boot = s.boot ∧
    (∀ r : Reg8, getReg r t ≠ getReg r s →
      (r = .A ∧ ∃ op src, i.value = .alu op src ∧ op ≠ .cp) ∨
      (∃ src, i.value = .ldByte (.reg r) src) ∨
      (i.value = .ldWord .BC ∧ (r = .B ∨ r = .C)) ∨
      (i.value = .ldWord .DE ∧ (r = .D ∨ r = .E)) ∨
      (i.value = .ldWord .HL ∧ (r = .H ∨ r = .L))) ∧
    (t.sp ≠ s.sp → i.value = .ldWord .SP)

/-- The forms that store (LD (HL),r, LD (HL),d8 and the six stores of A): every byte of memory reads as before
but those that show the byte at the address stored to, which is the address operand's value before the
instruction; every register is as before but H and L for LD (HL+),A and LD (HL-),A; flags, SP, the overlay bit
and the images are as before (R51, R63, R160, R190). Which addresses show the byte rests on Echo RAM's offset,
the spec's decision D20 (R45, log entry 14); that a store to Echo RAM changes nothing read is D11 (R54, log
entry 11), and that one outside RAM keeps nothing is D12 and D19 (log entry 13). -/
def Obligations.StoreFormFrame : Prop :=
  ∀ (i : Instr) (s t : State) (a : Word), storeAddress i s = some a → exec i s = .next t →
    sameReadsExcept a s t ∧ t.flags = s.flags ∧ t.sp = s.sp ∧
    t.overlayEnabled = s.overlayEnabled ∧ t.boot = s.boot ∧
    (∀ r : Reg8, getReg r t ≠ getReg r s → (i = .ldHLIncA ∨ i = .ldHLDecA) ∧ (r = .H ∨ r = .L))

/-- Only the arithmetic and logic instructions and BIT write a flag, and BIT leaves the carry flag. -/
def Obligations.OnlyAluAndBitWriteFlags : Prop :=
  ∀ (i : Instr) (s t : State), exec i s = .next t →
    (t.flags ≠ s.flags → ∃ src, (∃ op, i.value = .alu op src) ∨ (∃ index, i.value = .bit index src)) ∧
    (∀ index src, i.value = .bit index src → t.flags.c = s.flags.c)

/-- No step changes an image: the overlay image and the overlay bit stay, and so does every byte below 0x8000,
as it reads and as it is stored (writes to ROM are no-ops by D19, log entry 13; only the host disables the
overlay, D16, log entry 15). -/
def Obligations.NoStepChangesAnImage : Prop :=
  ∀ s t : State, step s = .next t →
    t.boot = s.boot ∧ t.overlayEnabled = s.overlayEnabled ∧
    (∀ a : Word, a.toNat ≤ 0x7FFF → busRead t a = busRead s a) ∧
    (∀ k : Nat, k ≤ 0x7FFF → Memory.read t.mem k = Memory.read s.mem k)

/-! ### The invariant, reset, construction and the host -/

/-- Every step keeps the invariant: canonical stores where there is storage, an enabled overlay has an image, a
halted core holds a condition that can occur and no count, a returned count is one in use. -/
def Obligations.StepKeepsInvariant : Prop :=
  ∀ s t : State, Inv s → step s = .next t → Inv t

/-- The state after reset meets the invariant. -/
def Obligations.ResetMeetsInvariant : Prop :=
  Inv State.reset

/-- So does every state that any sequence of host actions reaches from one that meets it. -/
def Obligations.HostActionsKeepInvariant : Prop :=
  ∀ (acts : List HostAction) (s t : State), Inv s → hostRun acts s = .next t → Inv t

/-- The register file and the flags are zero after reset, the core runs, and State.reset is what construction
gives with no overlay, an all-zero cartridge image and all-zero RAM. PC, SP and that choice of images and RAM
are log entries 3, 4 and 5. -/
def Obligations.ResetIsAConstructedState : Prop :=
  State.reset.a = 0#8 ∧ State.reset.b = 0#8 ∧ State.reset.c = 0#8 ∧ State.reset.d = 0#8 ∧
  State.reset.e = 0#8 ∧ State.reset.h = 0#8 ∧ State.reset.l = 0#8 ∧
  State.reset.flags.toByte = 0x00#8 ∧ State.reset.run = .running ∧
  State.reset.pc = 0x0000#16 ∧ State.reset.sp = 0x0000#16 ∧
  construct none (List.replicate 32768 0#8) (Vector.replicate 8192 0#8) (Vector.replicate 8192 0#8)
    (Vector.replicate 127 0#8) 0#16 = .next State.reset

/-- R222: construction fails exactly when an overlay image is supplied whose length is not 256 or the cartridge
image is shorter than 32768 bytes; a longer one is accepted; and no step ever answers this condition. -/
def Obligations.ConstructionRefusesWrongSizes : Prop :=
  (∀ (boot : Option (List Byte)) (cart : List Byte) (cram : Vector Byte 8192) (iram : Vector Byte 8192)
    (zram : Vector Byte 127) (sp : Word),
    (((∃ image, boot = some image ∧ image.length ≠ 256) ∨ cart.length < 32768) →
      construct boot cart cram iram zram sp = .refused .invalidImageSize) ∧
    ((∀ image, boot = some image → image.length = 256) → 32768 ≤ cart.length →
      ∃ t, construct boot cart cram iram zram sp = .next t)) ∧
  (∀ s : State, step s ≠ .refused .invalidImageSize)

/-- The constructed state, for all images and all RAM contents: the registers and flags zero, PC 0x0000 (D7, log
entry 5), SP as given (D8), running, the overlay enabled when an image is supplied, every stored byte the
image's or the argument's (the first 32768 bytes of the cartridge image, D23, log entry 24), and the
invariant. -/
def Obligations.ConstructedStateHoldsTheImages : Prop :=
  ∀ (boot : Option (List Byte)) (cart : List Byte) (cram : Vector Byte 8192) (iram : Vector Byte 8192)
    (zram : Vector Byte 127) (sp : Word) (t : State),
    construct boot cart cram iram zram sp = .next t →
      Inv t ∧
      (∀ r : Reg8, getReg r t = 0x00#8) ∧ t.flags = ⟨false, false, false, false⟩ ∧
      t.pc = 0x0000#16 ∧ t.sp = sp ∧ t.run = .running ∧ t.overlayEnabled = boot.isSome ∧
      (∀ k, k < 32768 → Memory.read t.mem k = cart.getD k 0#8) ∧
      (∀ k, k < 8192 → Memory.read t.mem (0xA000 + k) = cram.toList.getD k 0#8) ∧
      (∀ k, k < 8192 → Memory.read t.mem (0xC000 + k) = iram.toList.getD k 0#8) ∧
      (∀ k, k < 127 → Memory.read t.mem (0xFF80 + k) = zram.toList.getD k 0#8) ∧
      (∀ image, boot = some image → ∀ a : Word, a.toNat ≤ 0x00FF →
        busRead t a = image.getD a.toNat 0#8)

/-- The host's disable_overlay clears the overlay bit and changes nothing else, is idempotent, and leaves reads
of 0x0000 to 0x00FF to ROM bank 0 (R47; that it is a host action is the spec's decision D16, log entry 15). -/
def Obligations.DisableOverlayUncoversRom : Prop :=
  ∀ s : State,
    act .disableOverlay s = .next { s with overlayEnabled := false } ∧
    disableOverlay (disableOverlay s) = disableOverlay s ∧
    ∀ a : Word, a.toNat ≤ 0x00FF → busRead (disableOverlay s) a = Memory.read s.mem a.toNat

/-- The model's own placing operation: an instruction placed where the next step fetches is the one that step
runs (log entry 21). -/
def Obligations.PlacedInstructionIsTheNextOneRun : Prop :=
  ∀ (s : State) (nbits w : Nat) (i : Instr), Inv s → decodeTableWord nbits w = some i →
    step (s.withFetchWord nbits w) = exec i (s.withFetchWord nbits w)
end

