-- ==== Sys2Proof/Laws/Memory.lean ====
section
/-!
SUPPORT. The laws of the stored bytes: a read after a write, and that every operation keeps the canonical
form.
-/

namespace Sys2Proof.Machine

theorem Memory.wf_nil : Memory.wf [] := by simp [Memory.wf]

/-- The tail of a canonical list is canonical. -/
theorem Memory.wf_tail {x : Host.Cell} {m : Memory} (h : Memory.wf (x :: m)) : Memory.wf m :=
  ⟨(List.pairwise_cons.mp h.1).2, fun y hy => h.2 y (List.mem_cons_of_mem x hy)⟩

/-- A key below every listed one reads as unlisted. -/
theorem Memory.read_below {m : Memory} {a : Nat} (h : ∀ x ∈ m, a < x.1) :
    Memory.read m a = Params.unlistedByte := by
  induction m with
  | nil => rfl
  | cons x m ih =>
    obtain ⟨k, v⟩ := x
    have hk : a < k := h (k, v) List.mem_cons_self
    have hm : Memory.read m a = Params.unlistedByte := ih (fun y hy => h y (List.mem_cons_of_mem _ hy))
    simp only [Memory.read, hm, if_neg (Nat.ne_of_lt hk)]

/-- A read after a write to the same key gives the value written. -/
theorem Memory.read_write_same {m : Memory} (hm : Memory.wf m) (a : Nat) (v : Byte) :
    Memory.read (Memory.write m a v) a = v := by
  induction m with
  | nil => by_cases h : v = Params.unlistedByte <;> simp [Memory.write, Memory.read, h]
  | cons x m ih =>
    obtain ⟨k, w⟩ := x
    have hlt : ∀ y ∈ m, k < y.1 := (List.pairwise_cons.mp hm.1).1
    rcases Nat.lt_trichotomy a k with h | h | h
    · have ha : ∀ y ∈ (k, w) :: m, a < y.1 := by
        intro y hy
        rcases List.mem_cons.mp hy with rfl | hy
        · exact h
        · exact Nat.lt_trans h (hlt y hy)
      by_cases hv : v = Params.unlistedByte
      · simpa [Memory.write, h, hv] using Memory.read_below ha
      · simp [Memory.write, h, hv, Memory.read]
    · subst h
      by_cases hv : v = Params.unlistedByte
      · simpa [Memory.write, hv] using Memory.read_below hlt
      · simp [Memory.write, hv, Memory.read]
    · have h1 : ¬ a < k := by omega
      have h2 : a ≠ k := by omega
      simpa [Memory.write, h1, h2, Memory.read] using ih (Memory.wf_tail hm)

/-- A write leaves every other key as it was. -/
theorem Memory.read_write_other {m : Memory} (a b : Nat) (v : Byte) (h : b ≠ a) :
    Memory.read (Memory.write m a v) b = Memory.read m b := by
  induction m with
  | nil => by_cases hv : v = Params.unlistedByte <;> simp [Memory.write, Memory.read, hv, h]
  | cons x m ih =>
    obtain ⟨k, w⟩ := x
    simp only [Memory.write]
    split_ifs with h1 h2 h3 h4
    · rfl
    · simp [Memory.read, h]
    · subst h3; simp [Memory.read, h]
    · subst h3; simp [Memory.read, h]
    · simp only [Memory.read, ih]

/-- Every entry after a write was there before or is the one written. -/
theorem Memory.mem_write {m : Memory} {a : Nat} {v : Byte} {x : Host.Cell}
    (h : x ∈ Memory.write m a v) : x ∈ m ∨ (x = (a, v) ∧ v ≠ Params.unlistedByte) := by
  induction m with
  | nil =>
    by_cases hv : v = Params.unlistedByte <;> simp_all [Memory.write]
  | cons y m ih =>
    obtain ⟨k, w⟩ := y
    simp only [Memory.write] at h
    split_ifs at h with h1 h2 h3 h4
    · exact .inl h
    · rcases List.mem_cons.mp h with h | h
      · exact .inr ⟨h, h2⟩
      · exact .inl h
    · exact .inl (List.mem_cons_of_mem _ h)
    · rcases List.mem_cons.mp h with h | h
      · exact .inr ⟨h, h4⟩
      · exact .inl (List.mem_cons_of_mem _ h)
    · rcases List.mem_cons.mp h with h | h
      · exact .inl (h ▸ List.mem_cons_self)
      · exact (ih h).imp (List.mem_cons_of_mem _) id

/-- A write keeps the canonical form. -/
theorem Memory.wf_write {m : Memory} (hm : Memory.wf m) (a : Nat) (v : Byte) :
    Memory.wf (Memory.write m a v) := by
  refine ⟨?_, fun x hx => ?_⟩
  · induction m with
    | nil => by_cases hv : v = Params.unlistedByte <;> simp [Memory.write, hv]
    | cons y m ih =>
      obtain ⟨k, w⟩ := y
      obtain ⟨hlt, hp⟩ := List.pairwise_cons.mp hm.1
      simp only [Memory.write]
      split_ifs with h1 h2 h3 h4
      · exact hm.1
      · refine List.pairwise_cons.mpr ⟨fun x hx => ?_, hm.1⟩
        rcases List.mem_cons.mp hx with rfl | hx
        · exact h1
        · exact Nat.lt_trans h1 (hlt x hx)
      · exact hp
      · exact List.pairwise_cons.mpr ⟨fun x hx => h3 ▸ hlt x hx, hp⟩
      · refine List.pairwise_cons.mpr ⟨fun x hx => ?_, ih (Memory.wf_tail hm)⟩
        rcases Memory.mem_write hx with hx | ⟨rfl, -⟩
        · exact hlt x hx
        · show k < a
          omega
  · rcases Memory.mem_write hx with hx | ⟨rfl, hv⟩
    · exact hm.2 x hx
    · exact hv

/-- Every key of a loaded image lies in its range. -/
theorem Memory.mem_ofBytes {bytes : List Byte} {base : Nat} {x : Host.Cell}
    (h : x ∈ Memory.ofBytes base bytes) :
    base ≤ x.1 ∧ x.1 < base + bytes.length ∧ x.2 ≠ Params.unlistedByte := by
  induction bytes generalizing base with
  | nil => simp [Memory.ofBytes] at h
  | cons v rest ih =>
    simp only [Memory.ofBytes] at h
    split_ifs at h with hv
    · obtain ⟨h1, h2, h3⟩ := ih h
      exact ⟨by omega, by simp; omega, h3⟩
    · rcases List.mem_cons.mp h with rfl | h
      · exact ⟨by simp, by simp, hv⟩
      · obtain ⟨h1, h2, h3⟩ := ih h
        exact ⟨by omega, by simp; omega, h3⟩

/-- A loaded image is in canonical form. -/
theorem Memory.wf_ofBytes (base : Nat) (bytes : List Byte) : Memory.wf (Memory.ofBytes base bytes) := by
  refine ⟨?_, fun x hx => (Memory.mem_ofBytes hx).2.2⟩
  induction bytes generalizing base with
  | nil => simp [Memory.ofBytes]
  | cons v rest ih =>
    simp only [Memory.ofBytes]
    split_ifs
    · exact ih (base + 1)
    · refine List.pairwise_cons.mpr ⟨fun x hx => ?_, ih (base + 1)⟩
      have := (Memory.mem_ofBytes hx).1
      show base < x.1
      omega

/-- Two canonical lists of which the first lies below the second join to a canonical list. -/
theorem Memory.wf_append {m n : Memory} (hm : Memory.wf m) (hn : Memory.wf n)
    (h : ∀ x ∈ m, ∀ y ∈ n, x.1 < y.1) : Memory.wf (m ++ n) := by
  refine ⟨List.pairwise_append.mpr ⟨hm.1, hn.1, h⟩, fun x hx => ?_⟩
  rcases List.mem_append.mp hx with hx | hx
  · exact hm.2 x hx
  · exact hn.2 x hx

/-- A key the first list does not have is read from the second. -/
theorem Memory.read_append {m n : Memory} {a : Nat} (h : ∀ x ∈ m, x.1 ≠ a) :
    Memory.read (m ++ n) a = Memory.read n a := by
  induction m with
  | nil => rfl
  | cons x m ih =>
    obtain ⟨k, v⟩ := x
    have hk : a ≠ k := fun e => h (k, v) List.mem_cons_self e.symm
    simp only [List.cons_append, Memory.read, if_neg hk]
    exact ih (fun y hy => h y (List.mem_cons_of_mem _ hy))

end Sys2Proof.Machine
end

