-- ==== Sys2Proof/Laws/State.lean ====
section
/-!
SUPPORT. What each update of the state leaves in each field, one lemma per field and update, so that no
later proof unfolds a record update.
-/

namespace Sys2Proof.Machine

variable (s : State)


/-! ### setReg .A -/

@[simp] theorem setReg_A_a (v : Byte) : (setReg .A v s).a = v := rfl
@[simp] theorem setReg_A_b (v : Byte) : (setReg .A v s).b = s.b := rfl
@[simp] theorem setReg_A_c (v : Byte) : (setReg .A v s).c = s.c := rfl
@[simp] theorem setReg_A_d (v : Byte) : (setReg .A v s).d = s.d := rfl
@[simp] theorem setReg_A_e (v : Byte) : (setReg .A v s).e = s.e := rfl
@[simp] theorem setReg_A_h (v : Byte) : (setReg .A v s).h = s.h := rfl
@[simp] theorem setReg_A_l (v : Byte) : (setReg .A v s).l = s.l := rfl

/-! ### setReg .B -/

@[simp] theorem setReg_B_a (v : Byte) : (setReg .B v s).a = s.a := rfl
@[simp] theorem setReg_B_b (v : Byte) : (setReg .B v s).b = v := rfl
@[simp] theorem setReg_B_c (v : Byte) : (setReg .B v s).c = s.c := rfl
@[simp] theorem setReg_B_d (v : Byte) : (setReg .B v s).d = s.d := rfl
@[simp] theorem setReg_B_e (v : Byte) : (setReg .B v s).e = s.e := rfl
@[simp] theorem setReg_B_h (v : Byte) : (setReg .B v s).h = s.h := rfl
@[simp] theorem setReg_B_l (v : Byte) : (setReg .B v s).l = s.l := rfl

/-! ### setReg .C -/

@[simp] theorem setReg_C_a (v : Byte) : (setReg .C v s).a = s.a := rfl
@[simp] theorem setReg_C_b (v : Byte) : (setReg .C v s).b = s.b := rfl
@[simp] theorem setReg_C_c (v : Byte) : (setReg .C v s).c = v := rfl
@[simp] theorem setReg_C_d (v : Byte) : (setReg .C v s).d = s.d := rfl
@[simp] theorem setReg_C_e (v : Byte) : (setReg .C v s).e = s.e := rfl
@[simp] theorem setReg_C_h (v : Byte) : (setReg .C v s).h = s.h := rfl
@[simp] theorem setReg_C_l (v : Byte) : (setReg .C v s).l = s.l := rfl

/-! ### setReg .D -/

@[simp] theorem setReg_D_a (v : Byte) : (setReg .D v s).a = s.a := rfl
@[simp] theorem setReg_D_b (v : Byte) : (setReg .D v s).b = s.b := rfl
@[simp] theorem setReg_D_c (v : Byte) : (setReg .D v s).c = s.c := rfl
@[simp] theorem setReg_D_d (v : Byte) : (setReg .D v s).d = v := rfl
@[simp] theorem setReg_D_e (v : Byte) : (setReg .D v s).e = s.e := rfl
@[simp] theorem setReg_D_h (v : Byte) : (setReg .D v s).h = s.h := rfl
@[simp] theorem setReg_D_l (v : Byte) : (setReg .D v s).l = s.l := rfl

/-! ### setReg .E -/

@[simp] theorem setReg_E_a (v : Byte) : (setReg .E v s).a = s.a := rfl
@[simp] theorem setReg_E_b (v : Byte) : (setReg .E v s).b = s.b := rfl
@[simp] theorem setReg_E_c (v : Byte) : (setReg .E v s).c = s.c := rfl
@[simp] theorem setReg_E_d (v : Byte) : (setReg .E v s).d = s.d := rfl
@[simp] theorem setReg_E_e (v : Byte) : (setReg .E v s).e = v := rfl
@[simp] theorem setReg_E_h (v : Byte) : (setReg .E v s).h = s.h := rfl
@[simp] theorem setReg_E_l (v : Byte) : (setReg .E v s).l = s.l := rfl

/-! ### setReg .H -/

@[simp] theorem setReg_H_a (v : Byte) : (setReg .H v s).a = s.a := rfl
@[simp] theorem setReg_H_b (v : Byte) : (setReg .H v s).b = s.b := rfl
@[simp] theorem setReg_H_c (v : Byte) : (setReg .H v s).c = s.c := rfl
@[simp] theorem setReg_H_d (v : Byte) : (setReg .H v s).d = s.d := rfl
@[simp] theorem setReg_H_e (v : Byte) : (setReg .H v s).e = s.e := rfl
@[simp] theorem setReg_H_h (v : Byte) : (setReg .H v s).h = v := rfl
@[simp] theorem setReg_H_l (v : Byte) : (setReg .H v s).l = s.l := rfl

/-! ### setReg .L -/

@[simp] theorem setReg_L_a (v : Byte) : (setReg .L v s).a = s.a := rfl
@[simp] theorem setReg_L_b (v : Byte) : (setReg .L v s).b = s.b := rfl
@[simp] theorem setReg_L_c (v : Byte) : (setReg .L v s).c = s.c := rfl
@[simp] theorem setReg_L_d (v : Byte) : (setReg .L v s).d = s.d := rfl
@[simp] theorem setReg_L_e (v : Byte) : (setReg .L v s).e = s.e := rfl
@[simp] theorem setReg_L_h (v : Byte) : (setReg .L v s).h = s.h := rfl
@[simp] theorem setReg_L_l (v : Byte) : (setReg .L v s).l = v := rfl

/-! ### setReg of any register -/

@[simp] theorem setReg_flags (r : Reg8) (v : Byte) : (setReg r v s).flags = s.flags := by cases r <;> rfl
@[simp] theorem setReg_pc (r : Reg8) (v : Byte) : (setReg r v s).pc = s.pc := by cases r <;> rfl
@[simp] theorem setReg_sp (r : Reg8) (v : Byte) : (setReg r v s).sp = s.sp := by cases r <;> rfl
@[simp] theorem setReg_run (r : Reg8) (v : Byte) : (setReg r v s).run = s.run := by cases r <;> rfl
@[simp] theorem setReg_overlayEnabled (r : Reg8) (v : Byte) : (setReg r v s).overlayEnabled = s.overlayEnabled := by cases r <;> rfl
@[simp] theorem setReg_boot (r : Reg8) (v : Byte) : (setReg r v s).boot = s.boot := by cases r <;> rfl
@[simp] theorem setReg_mem (r : Reg8) (v : Byte) : (setReg r v s).mem = s.mem := by cases r <;> rfl
@[simp] theorem setReg_cycles (r : Reg8) (v : Byte) : (setReg r v s).cycles = s.cycles := by cases r <;> rfl

@[simp] theorem getReg_setReg_same (r : Reg8) (v : Byte) : getReg r (setReg r v s) = v := by cases r <;> rfl

theorem getReg_setReg_other (q r : Reg8) (v : Byte) (h : q ≠ r) : getReg q (setReg r v s) = getReg q s := by
  cases q <;> cases r <;> first | rfl | exact absurd rfl h

theorem getReg_setReg (q r : Reg8) (v : Byte) :
    getReg q (setReg r v s) = if q = r then v else getReg q s := by
  split
  case isTrue h => subst h; exact getReg_setReg_same s q v
  case isFalse h => exact getReg_setReg_other s q r v h

/-- Writing back what a register holds changes nothing. -/
@[simp] theorem setReg_getReg (r : Reg8) : setReg r (getReg r s) s = s := by cases r <;> rfl

/-! ### setFlags -/

@[simp] theorem setFlags_a (f : Flags) : (setFlags f s).a = s.a := rfl
@[simp] theorem setFlags_b (f : Flags) : (setFlags f s).b = s.b := rfl
@[simp] theorem setFlags_c (f : Flags) : (setFlags f s).c = s.c := rfl
@[simp] theorem setFlags_d (f : Flags) : (setFlags f s).d = s.d := rfl
@[simp] theorem setFlags_e (f : Flags) : (setFlags f s).e = s.e := rfl
@[simp] theorem setFlags_h (f : Flags) : (setFlags f s).h = s.h := rfl
@[simp] theorem setFlags_l (f : Flags) : (setFlags f s).l = s.l := rfl
@[simp] theorem setFlags_flags (f : Flags) : (setFlags f s).flags = f := rfl
@[simp] theorem setFlags_pc (f : Flags) : (setFlags f s).pc = s.pc := rfl
@[simp] theorem setFlags_sp (f : Flags) : (setFlags f s).sp = s.sp := rfl
@[simp] theorem setFlags_run (f : Flags) : (setFlags f s).run = s.run := rfl
@[simp] theorem setFlags_overlayEnabled (f : Flags) : (setFlags f s).overlayEnabled = s.overlayEnabled := rfl
@[simp] theorem setFlags_boot (f : Flags) : (setFlags f s).boot = s.boot := rfl
@[simp] theorem setFlags_mem (f : Flags) : (setFlags f s).mem = s.mem := rfl
@[simp] theorem setFlags_cycles (f : Flags) : (setFlags f s).cycles = s.cycles := rfl
@[simp] theorem getReg_setFlags (r : Reg8) (f : Flags) : getReg r (setFlags f s) = getReg r s := by cases r <;> rfl

/-! ### setSp -/

@[simp] theorem setSp_a (w : Word) : (setSp w s).a = s.a := rfl
@[simp] theorem setSp_b (w : Word) : (setSp w s).b = s.b := rfl
@[simp] theorem setSp_c (w : Word) : (setSp w s).c = s.c := rfl
@[simp] theorem setSp_d (w : Word) : (setSp w s).d = s.d := rfl
@[simp] theorem setSp_e (w : Word) : (setSp w s).e = s.e := rfl
@[simp] theorem setSp_h (w : Word) : (setSp w s).h = s.h := rfl
@[simp] theorem setSp_l (w : Word) : (setSp w s).l = s.l := rfl
@[simp] theorem setSp_flags (w : Word) : (setSp w s).flags = s.flags := rfl
@[simp] theorem setSp_pc (w : Word) : (setSp w s).pc = s.pc := rfl
@[simp] theorem setSp_sp (w : Word) : (setSp w s).sp = w := rfl
@[simp] theorem setSp_run (w : Word) : (setSp w s).run = s.run := rfl
@[simp] theorem setSp_overlayEnabled (w : Word) : (setSp w s).overlayEnabled = s.overlayEnabled := rfl
@[simp] theorem setSp_boot (w : Word) : (setSp w s).boot = s.boot := rfl
@[simp] theorem setSp_mem (w : Word) : (setSp w s).mem = s.mem := rfl
@[simp] theorem setSp_cycles (w : Word) : (setSp w s).cycles = s.cycles := rfl
@[simp] theorem getReg_setSp (r : Reg8) (w : Word) : getReg r (setSp w s) = getReg r s := by cases r <;> rfl

/-! ### setMem -/

@[simp] theorem setMem_a (m : Memory) : (setMem m s).a = s.a := rfl
@[simp] theorem setMem_b (m : Memory) : (setMem m s).b = s.b := rfl
@[simp] theorem setMem_c (m : Memory) : (setMem m s).c = s.c := rfl
@[simp] theorem setMem_d (m : Memory) : (setMem m s).d = s.d := rfl
@[simp] theorem setMem_e (m : Memory) : (setMem m s).e = s.e := rfl
@[simp] theorem setMem_h (m : Memory) : (setMem m s).h = s.h := rfl
@[simp] theorem setMem_l (m : Memory) : (setMem m s).l = s.l := rfl
@[simp] theorem setMem_flags (m : Memory) : (setMem m s).flags = s.flags := rfl
@[simp] theorem setMem_pc (m : Memory) : (setMem m s).pc = s.pc := rfl
@[simp] theorem setMem_sp (m : Memory) : (setMem m s).sp = s.sp := rfl
@[simp] theorem setMem_run (m : Memory) : (setMem m s).run = s.run := rfl
@[simp] theorem setMem_overlayEnabled (m : Memory) : (setMem m s).overlayEnabled = s.overlayEnabled := rfl
@[simp] theorem setMem_boot (m : Memory) : (setMem m s).boot = s.boot := rfl
@[simp] theorem setMem_mem (m : Memory) : (setMem m s).mem = m := rfl
@[simp] theorem setMem_cycles (m : Memory) : (setMem m s).cycles = s.cycles := rfl
@[simp] theorem getReg_setMem (r : Reg8) (m : Memory) : getReg r (setMem m s) = getReg r s := by cases r <;> rfl

/-! ### storeByte -/

@[simp] theorem storeByte_a (a : Word) (v : Byte) : (storeByte a v s).a = s.a := rfl
@[simp] theorem storeByte_b (a : Word) (v : Byte) : (storeByte a v s).b = s.b := rfl
@[simp] theorem storeByte_c (a : Word) (v : Byte) : (storeByte a v s).c = s.c := rfl
@[simp] theorem storeByte_d (a : Word) (v : Byte) : (storeByte a v s).d = s.d := rfl
@[simp] theorem storeByte_e (a : Word) (v : Byte) : (storeByte a v s).e = s.e := rfl
@[simp] theorem storeByte_h (a : Word) (v : Byte) : (storeByte a v s).h = s.h := rfl
@[simp] theorem storeByte_l (a : Word) (v : Byte) : (storeByte a v s).l = s.l := rfl
@[simp] theorem storeByte_flags (a : Word) (v : Byte) : (storeByte a v s).flags = s.flags := rfl
@[simp] theorem storeByte_pc (a : Word) (v : Byte) : (storeByte a v s).pc = s.pc := rfl
@[simp] theorem storeByte_sp (a : Word) (v : Byte) : (storeByte a v s).sp = s.sp := rfl
@[simp] theorem storeByte_run (a : Word) (v : Byte) : (storeByte a v s).run = s.run := rfl
@[simp] theorem storeByte_overlayEnabled (a : Word) (v : Byte) : (storeByte a v s).overlayEnabled = s.overlayEnabled := rfl
@[simp] theorem storeByte_boot (a : Word) (v : Byte) : (storeByte a v s).boot = s.boot := rfl
@[simp] theorem storeByte_mem (a : Word) (v : Byte) : (storeByte a v s).mem = Memory.write s.mem a.toNat v := rfl
@[simp] theorem storeByte_cycles (a : Word) (v : Byte) : (storeByte a v s).cycles = s.cycles := rfl
@[simp] theorem getReg_storeByte (r : Reg8) (a : Word) (v : Byte) : getReg r (storeByte a v s) = getReg r s := by cases r <;> rfl

/-! ### advance -/

@[simp] theorem advance_a (len cyc : Nat) : (advance len cyc s).a = s.a := rfl
@[simp] theorem advance_b (len cyc : Nat) : (advance len cyc s).b = s.b := rfl
@[simp] theorem advance_c (len cyc : Nat) : (advance len cyc s).c = s.c := rfl
@[simp] theorem advance_d (len cyc : Nat) : (advance len cyc s).d = s.d := rfl
@[simp] theorem advance_e (len cyc : Nat) : (advance len cyc s).e = s.e := rfl
@[simp] theorem advance_h (len cyc : Nat) : (advance len cyc s).h = s.h := rfl
@[simp] theorem advance_l (len cyc : Nat) : (advance len cyc s).l = s.l := rfl
@[simp] theorem advance_flags (len cyc : Nat) : (advance len cyc s).flags = s.flags := rfl
@[simp] theorem advance_pc (len cyc : Nat) : (advance len cyc s).pc = s.pc + BitVec.ofNat 16 len := rfl
@[simp] theorem advance_sp (len cyc : Nat) : (advance len cyc s).sp = s.sp := rfl
@[simp] theorem advance_run (len cyc : Nat) : (advance len cyc s).run = s.run := rfl
@[simp] theorem advance_overlayEnabled (len cyc : Nat) : (advance len cyc s).overlayEnabled = s.overlayEnabled := rfl
@[simp] theorem advance_boot (len cyc : Nat) : (advance len cyc s).boot = s.boot := rfl
@[simp] theorem advance_mem (len cyc : Nat) : (advance len cyc s).mem = s.mem := rfl
@[simp] theorem advance_cycles (len cyc : Nat) : (advance len cyc s).cycles = some cyc := rfl
@[simp] theorem getReg_advance (r : Reg8) (len cyc : Nat) : getReg r (advance len cyc s) = getReg r s := by cases r <;> rfl

/-! ### raise -/

@[simp] theorem raise_a (cond : Condition) : (raise cond s).a = s.a := rfl
@[simp] theorem raise_b (cond : Condition) : (raise cond s).b = s.b := rfl
@[simp] theorem raise_c (cond : Condition) : (raise cond s).c = s.c := rfl
@[simp] theorem raise_d (cond : Condition) : (raise cond s).d = s.d := rfl
@[simp] theorem raise_e (cond : Condition) : (raise cond s).e = s.e := rfl
@[simp] theorem raise_h (cond : Condition) : (raise cond s).h = s.h := rfl
@[simp] theorem raise_l (cond : Condition) : (raise cond s).l = s.l := rfl
@[simp] theorem raise_flags (cond : Condition) : (raise cond s).flags = s.flags := rfl
@[simp] theorem raise_pc (cond : Condition) : (raise cond s).pc = s.pc := rfl
@[simp] theorem raise_sp (cond : Condition) : (raise cond s).sp = s.sp := rfl
@[simp] theorem raise_run (cond : Condition) : (raise cond s).run = .halted cond := rfl
@[simp] theorem raise_overlayEnabled (cond : Condition) : (raise cond s).overlayEnabled = s.overlayEnabled := rfl
@[simp] theorem raise_boot (cond : Condition) : (raise cond s).boot = s.boot := rfl
@[simp] theorem raise_mem (cond : Condition) : (raise cond s).mem = s.mem := rfl
@[simp] theorem raise_cycles (cond : Condition) : (raise cond s).cycles = none := rfl
@[simp] theorem getReg_raise (r : Reg8) (cond : Condition) : getReg r (raise cond s) = getReg r s := by cases r <;> rfl

/-! ### disableOverlay -/

@[simp] theorem disableOverlay_a : (disableOverlay s).a = s.a := rfl
@[simp] theorem disableOverlay_b : (disableOverlay s).b = s.b := rfl
@[simp] theorem disableOverlay_c : (disableOverlay s).c = s.c := rfl
@[simp] theorem disableOverlay_d : (disableOverlay s).d = s.d := rfl
@[simp] theorem disableOverlay_e : (disableOverlay s).e = s.e := rfl
@[simp] theorem disableOverlay_h : (disableOverlay s).h = s.h := rfl
@[simp] theorem disableOverlay_l : (disableOverlay s).l = s.l := rfl
@[simp] theorem disableOverlay_flags : (disableOverlay s).flags = s.flags := rfl
@[simp] theorem disableOverlay_pc : (disableOverlay s).pc = s.pc := rfl
@[simp] theorem disableOverlay_sp : (disableOverlay s).sp = s.sp := rfl
@[simp] theorem disableOverlay_run : (disableOverlay s).run = s.run := rfl
@[simp] theorem disableOverlay_overlayEnabled : (disableOverlay s).overlayEnabled = false := rfl
@[simp] theorem disableOverlay_boot : (disableOverlay s).boot = s.boot := rfl
@[simp] theorem disableOverlay_mem : (disableOverlay s).mem = s.mem := rfl
@[simp] theorem disableOverlay_cycles : (disableOverlay s).cycles = s.cycles := rfl
@[simp] theorem getReg_disableOverlay (r : Reg8) : getReg r (disableOverlay s) = getReg r s := by cases r <;> rfl

/-! ### setPair of any pair -/

@[simp] theorem setPair_pc (p : PairView) (w : Word) : (setPair p w s).pc = s.pc := by cases p <;> rfl
@[simp] theorem setPair_sp (p : PairView) (w : Word) : (setPair p w s).sp = s.sp := by cases p <;> rfl
@[simp] theorem setPair_run (p : PairView) (w : Word) : (setPair p w s).run = s.run := by cases p <;> rfl
@[simp] theorem setPair_overlayEnabled (p : PairView) (w : Word) : (setPair p w s).overlayEnabled = s.overlayEnabled := by cases p <;> rfl
@[simp] theorem setPair_boot (p : PairView) (w : Word) : (setPair p w s).boot = s.boot := by cases p <;> rfl
@[simp] theorem setPair_mem (p : PairView) (w : Word) : (setPair p w s).mem = s.mem := by cases p <;> rfl
@[simp] theorem setPair_cycles (p : PairView) (w : Word) : (setPair p w s).cycles = s.cycles := by cases p <;> rfl

end Sys2Proof.Machine
end

