-- ==== Sys2Proof/Laws/Bus.lean ====
section
/-!
SUPPORT. What the bus operations can do, said once: reads depend on the overlay and the stored bytes only,
and a write keeps the state, stores one byte, or raises a condition.
-/

namespace Sys2Proof.Machine

/-- A read sees only the overlay bit, the images and the stored bytes. -/
theorem busRead_congr {s t : State} (ho : t.overlayEnabled = s.overlayEnabled) (hb : t.boot = s.boot)
    (hm : t.mem = s.mem) (a : Word) : busRead t a = busRead s a := by
  simp only [busRead, overlayAt, ho, hb, hm]

@[simp] theorem busRead_advance (s : State) (len cyc : Nat) (a : Word) :
    busRead (advance len cyc s) a = busRead s a := rfl

@[simp] theorem busRead_raise (s : State) (cond : Condition) (a : Word) :
    busRead (raise cond s) a = busRead s a := rfl

@[simp] theorem busRead_setFlags (s : State) (f : Flags) (a : Word) :
    busRead (setFlags f s) a = busRead s a := rfl

@[simp] theorem busRead_setSp (s : State) (w : Word) (a : Word) :
    busRead (setSp w s) a = busRead s a := rfl

@[simp] theorem busRead_setReg (s : State) (r : Reg8) (v : Byte) (a : Word) :
    busRead (setReg r v s) a = busRead s a :=
  busRead_congr (by simp) (by simp) (by simp) a

@[simp] theorem busRead_setPair (s : State) (p : PairView) (w : Word) (a : Word) :
    busRead (setPair p w s) a = busRead s a :=
  busRead_congr (by simp) (by simp) (by simp) a

/-- The map line by line: the region of every address, with the address's range (R41). -/
theorem regionOf_table (a : Word) :
    (a.toNat ≤ 0x3FFF ∧ regionOf a = .romBank0) ∨
    (0x4000 ≤ a.toNat ∧ a.toNat ≤ 0x7FFF ∧ regionOf a = .romBankN) ∨
    (0x8000 ≤ a.toNat ∧ a.toNat ≤ 0x9FFF ∧ regionOf a = .videoRam) ∨
    (0xA000 ≤ a.toNat ∧ a.toNat ≤ 0xBFFF ∧ regionOf a = .cartridgeRam) ∨
    (0xC000 ≤ a.toNat ∧ a.toNat ≤ 0xDFFF ∧ regionOf a = .internalRam) ∨
    (0xE000 ≤ a.toNat ∧ a.toNat ≤ 0xFDFF ∧ regionOf a = .echoRam) ∨
    (0xFE00 ≤ a.toNat ∧ a.toNat ≤ 0xFE9F ∧ regionOf a = .oam) ∨
    (0xFEA0 ≤ a.toNat ∧ a.toNat ≤ 0xFEFF ∧ regionOf a = .unused) ∨
    (0xFF00 ≤ a.toNat ∧ a.toNat ≤ 0xFF7F ∧ regionOf a = .io) ∨
    (0xFF80 ≤ a.toNat ∧ a.toNat ≤ 0xFFFE ∧ regionOf a = .zeroPage) ∨
    (a.toNat = 0xFFFF ∧ regionOf a = .interruptEnable) := by
  have := a.isLt
  unfold regionOf
  split_ifs <;> simp only [and_true, and_false, false_or, or_false] <;> omega

/-- The mirror of an Echo RAM address, as a number. -/
theorem echoTarget_toNat {a : Word} (h : 0x2000 ≤ a.toNat) : (echoTarget a).toNat = a.toNat - 0x2000 := by
  have := a.isLt
  rw [echoTarget, BitVec.toNat_sub]
  simp only [BitVec.toNat_ofNat]
  omega

/-- Above 0x00FF nothing is shadowed. -/
theorem overlayAt_high {a : Word} (s : State) (h : 0x00FF < a.toNat) : overlayAt s a = none :=
  if_neg (by omega)

/-- A disabled overlay shadows nothing. -/
theorem overlayAt_disabled {s : State} (h : s.overlayEnabled = false) (a : Word) : overlayAt s a = none :=
  if_neg (by simp [h])

/-- The regions a write leaves as they are. -/
def keepsNothing (r : Region) : Prop :=
  r = .romBank0 ∨ r = .romBankN ∨ r = .videoRam ∨ r = .oam ∨ r = .io ∨ r = .unused

/-- The regions a write stores to (R51). -/
def writable (r : Region) : Prop :=
  r = .cartridgeRam ∨ r = .internalRam ∨ r = .zeroPage

/-- Every write does one of three things, by the region of its address. -/
theorem busWrite_cases (a : Word) (v : Byte) (s : State) :
    (keepsNothing (regionOf a) ∧ busWrite a v s = .ok s) ∨
    (writable (regionOf a) ∧ busWrite a v s = .ok (storeByte a v s)) ∨
    ((regionOf a = .echoRam ∨ regionOf a = .interruptEnable) ∧
      busWrite a v s = .error (.unmappedWrite a v)) := by
  unfold busWrite busWriteUnder
  cases h : regionOf a <;> simp [keepsNothing, writable, echoWrite, Params.echoWritePolicy]

/-- If a write answers a state, only the stored bytes can differ. -/
theorem busWrite_ok {a : Word} {v : Byte} {s t : State} (h : busWrite a v s = .ok t) :
    t = s ∨ (writable (regionOf a) ∧ t = storeByte a v s) := by
  rcases busWrite_cases a v s with ⟨-, h'⟩ | ⟨hw, h'⟩ | ⟨-, h'⟩ <;> rw [h] at h'
  · exact .inl (Except.ok.inj h')
  · exact .inr ⟨hw, Except.ok.inj h'⟩
  · cases h'

/-- If a write raises, it is `UnmappedWrite` with its address and value (R224). -/
theorem busWrite_error {a : Word} {v : Byte} {s : State} {cond : Condition}
    (h : busWrite a v s = .error cond) :
    (regionOf a = .echoRam ∨ regionOf a = .interruptEnable) ∧ cond = .unmappedWrite a v := by
  rcases busWrite_cases a v s with ⟨-, h'⟩ | ⟨-, h'⟩ | ⟨hr, h'⟩ <;> rw [h] at h'
  · cases h'
  · cases h'
  · exact ⟨hr, Except.error.inj h'⟩

/-- `finish` ends in a next state: the rest of the instruction, or the halted core. -/
theorem finish_cases (written : Except Condition State) (rest : State → State) (s : State) :
    (∃ t, written = .ok t ∧ finish written rest s = .next (rest t)) ∨
    (∃ cond, written = .error cond ∧ finish written rest s = .next (raise cond s)) := by
  cases written with
  | ok t => exact .inl ⟨t, rfl, rfl⟩
  | error cond => exact .inr ⟨cond, rfl, rfl⟩

/-- What an instruction that writes memory can do. -/
theorem execStore_cases (a : Word) (v : Byte) (rest : State → State) (s : State) :
    (keepsNothing (regionOf a) ∧ execStore a v rest s = .next (rest s)) ∨
    (writable (regionOf a) ∧ execStore a v rest s = .next (rest (storeByte a v s))) ∨
    ((regionOf a = .echoRam ∨ regionOf a = .interruptEnable) ∧
      execStore a v rest s = .next (raise (.unmappedWrite a v) s)) := by
  rcases busWrite_cases a v s with ⟨h, h'⟩ | ⟨h, h'⟩ | ⟨h, h'⟩ <;> simp [execStore, finish, h', h]

end Sys2Proof.Machine
end

