-- ==== Sys2Proof/Laws/Forms.lean ====
section
/-!
SUPPORT. The instruction forms: every instruction is one of the ten forms the decoder builds, so a fact
about all 209 is proved by ten cases instead.
-/

namespace Sys2Proof.Laws

/-- Case analysis over the forms of the five families (R113). -/
theorem instr_forms (P : Instr → Prop)
    (alu : ∀ op s, P (.ofAlu op s))
    (ldRR : ∀ t s, P (.ofLdRR t s))
    (ldRHL : ∀ t, P (.ofLdRHL t))
    (ldHLR : ∀ s, P (.ofLdHLR s))
    (ldRD8 : ∀ t imm, P (.ofLdRD8 t imm))
    (ldHLD8 : ∀ imm, P (.ldHLIndD8 imm))
    (ldWord : ∀ rr imm, P (.ofLdWord rr imm))
    (stA : ∀ dest imm, P (.ofStA dest imm))
    (bit : ∀ index s, P (.ofBit index s)) (i : Instr) : P i := by
  cases i with
  | ldBCD16 imm => exact ldWord .BC imm
  | ldBCIndA => exact stA .bci 0#16
  | ldBD8 imm => exact ldRD8 .B imm
  | ldCD8 imm => exact ldRD8 .C imm
  | ldDED16 imm => exact ldWord .DE imm
  | ldDEIndA => exact stA .dei 0#16
  | ldDD8 imm => exact ldRD8 .D imm
  | ldED8 imm => exact ldRD8 .E imm
  | ldHLD16 imm => exact ldWord .HL imm
  | ldHLIncA => exact stA .hliInc 0#16
  | ldHD8 imm => exact ldRD8 .H imm
  | ldLD8 imm => exact ldRD8 .L imm
  | ldSPD16 imm => exact ldWord .SP imm
  | ldHLDecA => exact stA .hld 0#16
  | ldHLIndD8 imm => exact ldHLD8 imm
  | ldAD8 imm => exact ldRD8 .A imm
  | ldBB => exact ldRR .B .B
  | ldBC => exact ldRR .B .C
  | ldBD => exact ldRR .B .D
  | ldBE => exact ldRR .B .E
  | ldBH => exact ldRR .B .H
  | ldBL => exact ldRR .B .L
  | ldBHLInd => exact ldRHL .B
  | ldBA => exact ldRR .B .A
  | ldCB => exact ldRR .C .B
  | ldCC => exact ldRR .C .C
  | ldCD => exact ldRR .C .D
  | ldCE => exact ldRR .C .E
  | ldCH => exact ldRR .C .H
  | ldCL => exact ldRR .C .L
  | ldCHLInd => exact ldRHL .C
  | ldCA => exact ldRR .C .A
  | ldDB => exact ldRR .D .B
  | ldDC => exact ldRR .D .C
  | ldDD => exact ldRR .D .D
  | ldDE => exact ldRR .D .E
  | ldDH => exact ldRR .D .H
  | ldDL => exact ldRR .D .L
  | ldDHLInd => exact ldRHL .D
  | ldDA => exact ldRR .D .A
  | ldEB => exact ldRR .E .B
  | ldEC => exact ldRR .E .C
  | ldED => exact ldRR .E .D
  | ldEE => exact ldRR .E .E
  | ldEH => exact ldRR .E .H
  | ldEL => exact ldRR .E .L
  | ldEHLInd => exact ldRHL .E
  | ldEA => exact ldRR .E .A
  | ldHB => exact ldRR .H .B
  | ldHC => exact ldRR .H .C
  | ldHD => exact ldRR .H .D
  | ldHE => exact ldRR .H .E
  | ldHH => exact ldRR .H .H
  | ldHL => exact ldRR .H .L
  | ldHHLInd => exact ldRHL .H
  | ldHA => exact ldRR .H .A
  | ldLB => exact ldRR .L .B
  | ldLC => exact ldRR .L .C
  | ldLD => exact ldRR .L .D
  | ldLE => exact ldRR .L .E
  | ldLH => exact ldRR .L .H
  | ldLL => exact ldRR .L .L
  | ldLHLInd => exact ldRHL .L
  | ldLA => exact ldRR .L .A
  | ldHLIndB => exact ldHLR .B
  | ldHLIndC => exact ldHLR .C
  | ldHLIndD => exact ldHLR .D
  | ldHLIndE => exact ldHLR .E
  | ldHLIndH => exact ldHLR .H
  | ldHLIndL => exact ldHLR .L
  | ldHLIndA => exact ldHLR .A
  | ldAB => exact ldRR .A .B
  | ldAC => exact ldRR .A .C
  | ldAD => exact ldRR .A .D
  | ldAE => exact ldRR .A .E
  | ldAH => exact ldRR .A .H
  | ldAL => exact ldRR .A .L
  | ldAHLInd => exact ldRHL .A
  | ldAA => exact ldRR .A .A
  | addAB => exact alu .add (.reg .B)
  | addAC => exact alu .add (.reg .C)
  | addAD => exact alu .add (.reg .D)
  | addAE => exact alu .add (.reg .E)
  | addAH => exact alu .add (.reg .H)
  | addAL => exact alu .add (.reg .L)
  | addAHLInd => exact alu .add .hli
  | addAA => exact alu .add (.reg .A)
  | adcAB => exact alu .adc (.reg .B)
  | adcAC => exact alu .adc (.reg .C)
  | adcAD => exact alu .adc (.reg .D)
  | adcAE => exact alu .adc (.reg .E)
  | adcAH => exact alu .adc (.reg .H)
  | adcAL => exact alu .adc (.reg .L)
  | adcAHLInd => exact alu .adc .hli
  | adcAA => exact alu .adc (.reg .A)
  | subB => exact alu .sub (.reg .B)
  | subC => exact alu .sub (.reg .C)
  | subD => exact alu .sub (.reg .D)
  | subE => exact alu .sub (.reg .E)
  | subH => exact alu .sub (.reg .H)
  | subL => exact alu .sub (.reg .L)
  | subHLInd => exact alu .sub .hli
  | subA => exact alu .sub (.reg .A)
  | sbcAB => exact alu .sbc (.reg .B)
  | sbcAC => exact alu .sbc (.reg .C)
  | sbcAD => exact alu .sbc (.reg .D)
  | sbcAE => exact alu .sbc (.reg .E)
  | sbcAH => exact alu .sbc (.reg .H)
  | sbcAL => exact alu .sbc (.reg .L)
  | sbcAHLInd => exact alu .sbc .hli
  | sbcAA => exact alu .sbc (.reg .A)
  | andB => exact alu .and (.reg .B)
  | andC => exact alu .and (.reg .C)
  | andD => exact alu .and (.reg .D)
  | andE => exact alu .and (.reg .E)
  | andH => exact alu .and (.reg .H)
  | andL => exact alu .and (.reg .L)
  | andHLInd => exact alu .and .hli
  | andA => exact alu .and (.reg .A)
  | xorB => exact alu .xor (.reg .B)
  | xorC => exact alu .xor (.reg .C)
  | xorD => exact alu .xor (.reg .D)
  | xorE => exact alu .xor (.reg .E)
  | xorH => exact alu .xor (.reg .H)
  | xorL => exact alu .xor (.reg .L)
  | xorHLInd => exact alu .xor .hli
  | xorA => exact alu .xor (.reg .A)
  | orB => exact alu .or (.reg .B)
  | orC => exact alu .or (.reg .C)
  | orD => exact alu .or (.reg .D)
  | orE => exact alu .or (.reg .E)
  | orH => exact alu .or (.reg .H)
  | orL => exact alu .or (.reg .L)
  | orHLInd => exact alu .or .hli
  | orA => exact alu .or (.reg .A)
  | cpB => exact alu .cp (.reg .B)
  | cpC => exact alu .cp (.reg .C)
  | cpD => exact alu .cp (.reg .D)
  | cpE => exact alu .cp (.reg .E)
  | cpH => exact alu .cp (.reg .H)
  | cpL => exact alu .cp (.reg .L)
  | cpHLInd => exact alu .cp .hli
  | cpA => exact alu .cp (.reg .A)
  | ldCIndA => exact stA .highC 0#16
  | ldA16IndA imm => exact stA .a16 imm
  | bit0B => exact bit 0 (.reg .B)
  | bit0C => exact bit 0 (.reg .C)
  | bit0D => exact bit 0 (.reg .D)
  | bit0E => exact bit 0 (.reg .E)
  | bit0H => exact bit 0 (.reg .H)
  | bit0L => exact bit 0 (.reg .L)
  | bit0HLInd => exact bit 0 .hli
  | bit0A => exact bit 0 (.reg .A)
  | bit1B => exact bit 1 (.reg .B)
  | bit1C => exact bit 1 (.reg .C)
  | bit1D => exact bit 1 (.reg .D)
  | bit1E => exact bit 1 (.reg .E)
  | bit1H => exact bit 1 (.reg .H)
  | bit1L => exact bit 1 (.reg .L)
  | bit1HLInd => exact bit 1 .hli
  | bit1A => exact bit 1 (.reg .A)
  | bit2B => exact bit 2 (.reg .B)
  | bit2C => exact bit 2 (.reg .C)
  | bit2D => exact bit 2 (.reg .D)
  | bit2E => exact bit 2 (.reg .E)
  | bit2H => exact bit 2 (.reg .H)
  | bit2L => exact bit 2 (.reg .L)
  | bit2HLInd => exact bit 2 .hli
  | bit2A => exact bit 2 (.reg .A)
  | bit3B => exact bit 3 (.reg .B)
  | bit3C => exact bit 3 (.reg .C)
  | bit3D => exact bit 3 (.reg .D)
  | bit3E => exact bit 3 (.reg .E)
  | bit3H => exact bit 3 (.reg .H)
  | bit3L => exact bit 3 (.reg .L)
  | bit3HLInd => exact bit 3 .hli
  | bit3A => exact bit 3 (.reg .A)
  | bit4B => exact bit 4 (.reg .B)
  | bit4C => exact bit 4 (.reg .C)
  | bit4D => exact bit 4 (.reg .D)
  | bit4E => exact bit 4 (.reg .E)
  | bit4H => exact bit 4 (.reg .H)
  | bit4L => exact bit 4 (.reg .L)
  | bit4HLInd => exact bit 4 .hli
  | bit4A => exact bit 4 (.reg .A)
  | bit5B => exact bit 5 (.reg .B)
  | bit5C => exact bit 5 (.reg .C)
  | bit5D => exact bit 5 (.reg .D)
  | bit5E => exact bit 5 (.reg .E)
  | bit5H => exact bit 5 (.reg .H)
  | bit5L => exact bit 5 (.reg .L)
  | bit5HLInd => exact bit 5 .hli
  | bit5A => exact bit 5 (.reg .A)
  | bit6B => exact bit 6 (.reg .B)
  | bit6C => exact bit 6 (.reg .C)
  | bit6D => exact bit 6 (.reg .D)
  | bit6E => exact bit 6 (.reg .E)
  | bit6H => exact bit 6 (.reg .H)
  | bit6L => exact bit 6 (.reg .L)
  | bit6HLInd => exact bit 6 .hli
  | bit6A => exact bit 6 (.reg .A)
  | bit7B => exact bit 7 (.reg .B)
  | bit7C => exact bit 7 (.reg .C)
  | bit7D => exact bit 7 (.reg .D)
  | bit7E => exact bit 7 (.reg .E)
  | bit7H => exact bit 7 (.reg .H)
  | bit7L => exact bit 7 (.reg .L)
  | bit7HLInd => exact bit 7 .hli
  | bit7A => exact bit 7 (.reg .A)

end Sys2Proof.Laws
end

