-- ==== Sys2Proof/Laws/Decode.lean ====
section
/-!
SUPPORT. The decoder's parts: the value of each form, that every table entry has an instruction, and what a
failed lookup says.
-/

namespace Sys2Proof

theorem value_ofAlu (op : AluOp) (src : Operand8) : (Instr.ofAlu op src).value = .alu op src := by
  cases op <;> (cases src with | hli => rfl | reg r => cases r <;> rfl)

theorem value_ofLdRR (t src : Reg8) : (Instr.ofLdRR t src).value = .ldByte (.reg t) (.operand (.reg src)) := by
  cases t <;> cases src <;> rfl

theorem value_ofLdRHL (t : Reg8) : (Instr.ofLdRHL t).value = .ldByte (.reg t) (.operand .hli) := by
  cases t <;> rfl

theorem value_ofLdHLR (src : Reg8) : (Instr.ofLdHLR src).value = .ldByte .hli (.operand (.reg src)) := by
  cases src <;> rfl

theorem value_ofLdRD8 (t : Reg8) (imm : Byte) : (Instr.ofLdRD8 t imm).value = .ldByte (.reg t) .d8 := by
  cases t <;> rfl

theorem value_ofLdWord (rr : Pair16) (imm : Word) : (Instr.ofLdWord rr imm).value = .ldWord rr := by
  cases rr <;> rfl

theorem value_ofStA (dest : StoreDest) (imm : Word) : (Instr.ofStA dest imm).value = .stA dest := by
  cases dest <;> rfl

theorem value_ofBit (index : Fin 8) (src : Operand8) : (Instr.ofBit index src).value = .bit index.val src := by
  fin_cases index <;> (cases src with | hli => rfl | reg r => cases r <;> rfl)

/-- A well-formed value has an instruction, whatever the bytes after the opcode are. -/
theorem ofValue_some {v : Value} (h : v.wellFormed = true) (d0 d1 : Byte) :
    ∃ i, Instr.ofValue? v d0 d1 = some i ∧ i.value = v := by
  cases v with
  | alu op src => exact ⟨_, rfl, value_ofAlu op src⟩
  | ldByte t src =>
    cases t with
    | hli =>
      cases src with
      | operand o =>
        cases o with
        | hli => cases h
        | reg r => exact ⟨_, rfl, value_ofLdHLR r⟩
      | d8 => exact ⟨_, rfl, rfl⟩
    | reg t =>
      cases src with
      | operand o =>
        cases o with
        | hli => exact ⟨_, rfl, value_ofLdRHL t⟩
        | reg r => exact ⟨_, rfl, value_ofLdRR t r⟩
      | d8 => exact ⟨_, rfl, value_ofLdRD8 t d0⟩
  | ldWord rr => exact ⟨_, rfl, value_ofLdWord rr _⟩
  | stA dest => exact ⟨_, rfl, value_ofStA dest _⟩
  | bit index src =>
    have hi : index < 8 := by simpa [Value.wellFormed] using h
    exact ⟨.ofBit ⟨index, hi⟩ src, by simp [Instr.ofValue?, hi], value_ofBit _ _⟩

/-- Every table entry is a well-formed value. -/
theorem decodeByte_wellFormed :
    ∀ (b : Byte) (prefixed : Bool), ((decodeByte b prefixed).all Value.wellFormed) = true := by
  decide

/-- A lookup fails exactly where the table has no entry, and carries the byte and the table. -/
theorem lookup_error {b : Byte} {prefixed : Bool} {d0 d1 : Byte} {e : Illegal}
    (h : lookup b prefixed d0 d1 = .error e) : e = ⟨b, prefixed⟩ ∧ decodeByte b prefixed = none := by
  unfold lookup at h
  cases hd : decodeByte b prefixed with
  | none =>
    rw [hd] at h
    cases h
    exact ⟨rfl, rfl⟩
  | some v =>
    have hw := decodeByte_wellFormed b prefixed
    rw [hd] at h hw
    obtain ⟨i, hi, -⟩ := ofValue_some (v := v) hw d0 d1
    simp [hi] at h

/-- What a failed decode of a window says: the byte it carries has no entry in the table it names. -/
theorem decodeWindow_error {b0 b1 b2 : Byte} {e : Illegal} (h : decodeWindow b0 b1 b2 = .error e) :
    decodeByte e.byte e.prefixed = none := by
  unfold decodeWindow at h
  split at h <;> (obtain ⟨rfl, h'⟩ := lookup_error h; exact h')

/-- A prefixed pair of bytes at the front of a list, from its lookup. -/
theorem decode_prefixed {b : Byte} {i : Instr} (rest : List Byte)
    (h : lookup b true 0#8 0#8 = .ok i) (hl : i.length = 2) :
    decode (prefixByte :: b :: rest) = .ok (i, rest) := by
  simp [decode, decodeWindow, h, hl]

end Sys2Proof
end

