-- ==== Sys2Proof/Laws/Exec.lean ====
section
/-!
SUPPORT. `exec` and `step` said once: one equation per instruction form, what an instruction can do, and what
a step can do.
-/

namespace Sys2Proof.Machine

theorem exec_ofAlu (op : AluOp) (src : Operand8) (s : State) :
    exec (.ofAlu op src) s = execAlu op src s := by
  cases op <;> (cases src with | hli => rfl | reg r => cases r <;> rfl)

theorem exec_ofLdRR (t src : Reg8) (s : State) :
    exec (.ofLdRR t src) s = execLdRegReg t src s := by
  cases t <;> cases src <;> rfl

theorem exec_ofLdRHL (t : Reg8) (s : State) : exec (.ofLdRHL t) s = execLdRegInd t s := by
  cases t <;> rfl

theorem exec_ofLdHLR (src : Reg8) (s : State) : exec (.ofLdHLR src) s = execLdIndReg src s := by
  cases src <;> rfl

theorem exec_ofLdRD8 (t : Reg8) (imm : Byte) (s : State) :
    exec (.ofLdRD8 t imm) s = execLdRegImm t imm s := by
  cases t <;> rfl

theorem exec_ldHLIndD8 (imm : Byte) (s : State) : exec (.ldHLIndD8 imm) s = execLdIndImm imm s := rfl

theorem exec_ofLdWord_BC (imm : Word) (s : State) : exec (.ofLdWord .BC imm) s = execLdPair .BC imm s := rfl

theorem exec_ofLdWord_DE (imm : Word) (s : State) : exec (.ofLdWord .DE imm) s = execLdPair .DE imm s := rfl

theorem exec_ofLdWord_HL (imm : Word) (s : State) : exec (.ofLdWord .HL imm) s = execLdPair .HL imm s := rfl

theorem exec_ofLdWord_SP (imm : Word) (s : State) : exec (.ofLdWord .SP imm) s = execLdSp imm s := rfl

/-- What a store of A does after its write (R190). -/
def afterStoreA (dest : StoreDest) (s t : State) : State :=
  match dest with
  | .bci => advance 1 8 t
  | .dei => advance 1 8 t
  | .hliInc => advance 1 8 (setPair .HL (getPair .HL s + 1#16) t)
  | .hld => advance 1 8 (setPair .HL (getPair .HL s - 1#16) t)
  | .a16 => advance 3 16 t
  | .highC => advance Params.highPageStoreLen 8 t

/-- The address of a store of A (R190). -/
def addressStoreA (dest : StoreDest) (imm : Word) (s : State) : Word :=
  match dest with
  | .bci => getPair .BC s
  | .dei => getPair .DE s
  | .hliInc => getPair .HL s
  | .hld => getPair .HL s
  | .a16 => imm
  | .highC => highPage s.c

theorem exec_ofStA (dest : StoreDest) (imm : Word) (s : State) :
    exec (.ofStA dest imm) s = execStore (addressStoreA dest imm s) s.a (afterStoreA dest s) s := by
  cases dest <;> rfl

theorem exec_ofBit (index : Fin 8) (src : Operand8) (s : State) :
    exec (.ofBit index src) s = execBit index.val src s := by
  fin_cases index <;> (cases src with | hli => rfl | reg r => cases r <;> rfl)

/-- What holds after an instruction that completes: nothing else of the machine moves, PC advances by the
form's length and the form's count is returned. -/
structure Completes (i : Instr) (s t : State) : Prop where
  overlay : t.overlayEnabled = s.overlayEnabled
  boot : t.boot = s.boot
  run : t.run = s.run
  pc : t.pc = s.pc + BitVec.ofNat 16 (formLength i.value)
  cycles : t.cycles = some (formCycles i.value)

/-- What any instruction can do: complete without a store, complete with a store that is kept nowhere or in
RAM, or halt the core on a write that raises. -/
theorem exec_cases (i : Instr) (s : State) :
    (storeAddress i s = none ∧ ∃ t, exec i s = .next t ∧ t.mem = s.mem ∧ Completes i s t) ∨
    (∃ a t, storeAddress i s = some a ∧ keepsNothing (regionOf a) ∧ exec i s = .next t ∧
      t.mem = s.mem ∧ t.flags = s.flags ∧ t.sp = s.sp ∧ Completes i s t) ∨
    (∃ a t, storeAddress i s = some a ∧ writable (regionOf a) ∧ exec i s = .next t ∧
      t.mem = Memory.write s.mem a.toNat (storeValue i s) ∧ t.flags = s.flags ∧ t.sp = s.sp ∧
      Completes i s t) ∨
    (∃ a, storeAddress i s = some a ∧ (regionOf a = .echoRam ∨ regionOf a = .interruptEnable) ∧
      exec i s = .next (raise (.unmappedWrite a (storeValue i s)) s)) := by
  induction i using Laws.instr_forms with
  | alu op src =>
    refine .inl ⟨?_, _, exec_ofAlu op src s, ?_, ?_, ?_, ?_, ?_, ?_⟩
    · cases op <;> (cases src with | hli => rfl | reg r => cases r <;> rfl)
    · cases op <;> rfl
    · cases op <;> rfl
    · cases op <;> rfl
    · cases op <;> rfl
    · rw [value_ofAlu]
      cases op <;> rfl
    · rw [value_ofAlu]
      cases src <;> rfl
  | ldRR t src =>
    refine .inl ⟨?_, _, exec_ofLdRR t src s, ?_, ?_, ?_, ?_, ?_, ?_⟩
    · cases t <;> cases src <;> rfl
    all_goals (try rw [value_ofLdRR]); cases t <;> rfl
  | ldRHL t =>
    refine .inl ⟨?_, _, exec_ofLdRHL t s, ?_, ?_, ?_, ?_, ?_, ?_⟩
    all_goals cases t <;> rfl
  | ldRD8 t imm =>
    refine .inl ⟨?_, _, exec_ofLdRD8 t imm s, ?_, ?_, ?_, ?_, ?_, ?_⟩
    all_goals cases t <;> rfl
  | ldWord rr imm =>
    cases rr <;> exact .inl ⟨rfl, _, rfl, rfl, rfl, rfl, rfl, rfl, rfl⟩
  | bit index src =>
    refine .inl ⟨?_, _, exec_ofBit index src s, rfl, rfl, rfl, rfl, ?_, ?_⟩
    · fin_cases index <;> (cases src with | hli => rfl | reg r => cases r <;> rfl)
    · rw [value_ofBit]
      rfl
    · rw [value_ofBit]
      cases src <;> rfl
  | ldHLR src =>
    have he : exec (.ofLdHLR src) s = execStore (getPair .HL s) (getReg src s) (advance 1 8) s :=
      exec_ofLdHLR src s
    have ha : storeAddress (.ofLdHLR src) s = some (getPair .HL s) := by cases src <;> rfl
    have hv : storeValue (.ofLdHLR src) s = getReg src s := by cases src <;> rfl
    rw [he, ha, hv]
    rcases execStore_cases (getPair .HL s) (getReg src s) (advance 1 8) s with ⟨h, h'⟩ | ⟨h, h'⟩ | ⟨h, h'⟩
    · exact .inr (.inl ⟨_, _, rfl, h, h', rfl, rfl, rfl, rfl, rfl, rfl, by rw [value_ofLdHLR]; rfl,
        by rw [value_ofLdHLR]; rfl⟩)
    · exact .inr (.inr (.inl ⟨_, _, rfl, h, h', rfl, rfl, rfl, rfl, rfl, rfl, by rw [value_ofLdHLR]; rfl,
        by rw [value_ofLdHLR]; rfl⟩))
    · exact .inr (.inr (.inr ⟨_, rfl, h, h'⟩))
  | ldHLD8 imm =>
    rcases execStore_cases (getPair .HL s) imm (advance 2 8) s with ⟨h, h'⟩ | ⟨h, h'⟩ | ⟨h, h'⟩
    · exact .inr (.inl ⟨_, _, rfl, h, h', rfl, rfl, rfl, rfl, rfl, rfl, rfl, rfl⟩)
    · exact .inr (.inr (.inl ⟨_, _, rfl, h, h', rfl, rfl, rfl, rfl, rfl, rfl, rfl, rfl⟩))
    · exact .inr (.inr (.inr ⟨_, rfl, h, h'⟩))
  | stA dest imm =>
    have ha : storeAddress (.ofStA dest imm) s = some (addressStoreA dest imm s) := by cases dest <;> rfl
    have hv : storeValue (.ofStA dest imm) s = s.a := by cases dest <;> rfl
    rw [exec_ofStA, ha, hv]
    rcases execStore_cases (addressStoreA dest imm s) s.a (afterStoreA dest s) s with
      ⟨h, h'⟩ | ⟨h, h'⟩ | ⟨h, h'⟩
    · refine .inr (.inl ⟨_, _, rfl, h, h', ?_⟩)
      cases dest <;> exact ⟨rfl, rfl, rfl, rfl, rfl, rfl, rfl, rfl⟩
    · refine .inr (.inr (.inl ⟨_, _, rfl, h, h', ?_⟩))
      cases dest <;> exact ⟨rfl, rfl, rfl, rfl, rfl, rfl, rfl, rfl⟩
    · exact .inr (.inr (.inr ⟨_, rfl, h, h'⟩))

/-- Every instruction has a next state on every state (R113: "a total mapping per variant"). -/
theorem exec_next (i : Instr) (s : State) : ∃ t, exec i s = .next t := by
  rcases exec_cases i s with ⟨-, t, h, -⟩ | ⟨_, t, -, -, h, -⟩ | ⟨_, t, -, -, h, -⟩ | ⟨_, -, -, h⟩
  · exact ⟨t, h⟩
  · exact ⟨t, h⟩
  · exact ⟨t, h⟩
  · exact ⟨_, h⟩

/-- A store to an address that takes a write completes, and `memAfterWrite` is what it stores. -/
theorem execStore_accepts {a : Word} (h : acceptsWrite a) (v : Byte) (rest : State → State) (s : State) :
    execStore a v rest s = .next (rest (setMem (memAfterWrite a v s) s)) := by
  unfold execStore finish busWrite busWriteUnder memAfterWrite
  unfold acceptsWrite at h
  unfold isRam
  rcases regionOf_table a with ⟨_, hr⟩ | ⟨_, _, hr⟩ | ⟨_, _, hr⟩ | ⟨_, _, hr⟩ | ⟨_, _, hr⟩ | ⟨_, _, hr⟩ |
      ⟨_, _, hr⟩ | ⟨_, _, hr⟩ | ⟨_, _, hr⟩ | ⟨_, _, hr⟩ | ⟨_, hr⟩ <;>
    simp only [hr] <;>
    first
      | rw [if_pos (by omega)]; rfl
      | rw [if_neg (by omega)]; rfl
      | (exfalso; omega)

theorem step_halted {s : State} {cond : Condition} (h : s.run = .halted cond) : step s = .next s := by
  simp [step, h, haltedStep]

theorem step_running {s : State} {i : Instr} (h : s.run = .running) (hf : fetchDecode s = .ok i) :
    step s = exec i s := by
  simp [step, h, hf]

theorem step_illegal {s : State} {e : Illegal} (h : s.run = .running) (hf : fetchDecode s = .error e) :
    step s = .next (raise (.illegalOpcode e.byte e.prefixed) s) := by
  simp [step, h, hf, illegalStep]

/-- What a step can do: nothing in a halted core, halt on a byte without an entry, or execute. -/
theorem step_cases (s : State) :
    ((∃ cond, s.run = .halted cond) ∧ step s = .next s) ∨
    (s.run = .running ∧ ∃ e, fetchDecode s = .error e ∧
      step s = .next (raise (.illegalOpcode e.byte e.prefixed) s)) ∨
    (s.run = .running ∧ ∃ i, fetchDecode s = .ok i ∧ step s = exec i s) := by
  cases hr : s.run with
  | halted cond => exact .inl ⟨⟨cond, rfl⟩, step_halted hr⟩
  | running =>
    cases hf : fetchDecode s with
    | error e => exact .inr (.inl ⟨rfl, e, rfl, step_illegal hr hf⟩)
    | ok i => exact .inr (.inr ⟨rfl, i, rfl, step_running hr hf⟩)

end Sys2Proof.Machine
end

