-- ==== Sys2Proof/Tests/Slice0.lean ====
section
/-!
SUPPORT. Tests: expected values from opcode_table.json and from 95_test_vectors.md (named by their ids),
never from the model; and for every obligation with hypotheses a theorem that shows them met.
-/

namespace Sys2Proof.Tests

open Sys2Proof Sys2Proof.Machine

/-! ### Well-formedness: one ill-formed term for each of R97's two checks, and one that passes -/

theorem test_wellformed_refuses_load_hli_hli :
    (Value.ldByte .hli (.operand .hli)).wellFormed = false := by decide

theorem test_wellformed_refuses_bit_index_8 : (Value.bit 8 (.reg .B)).wellFormed = false := by decide

theorem test_wellformed_admits_bit_index_7 : (Value.bit 7 .hli).wellFormed = true := by decide

theorem test_ill_formed_values_have_no_instruction :
    (Instr.ofValue? (.ldByte .hli (.operand .hli)) 0#8 0#8).isNone = true ∧
    (Instr.ofValue? (.bit 8 (.reg .B)) 0#8 0#8).isNone = true := by decide

/-! ### Decoding: the word of every row of opcode_table.json, written from the table -/

/-- The bytes of a table row, and its instruction. -/
abbrev Row := List Byte × Instr

/-- The bytes decode to exactly that instruction. -/
def decodesTo (row : Row) : Bool :=
  match decode row.1 with
  | .ok (i, []) => decide (i = row.2)
  | _ => false

/-- Arithmetic and logic, 0x80 to 0xBF (R88). -/
def aluWords : List Row :=
  ([([0x80#8], .addAB), ([0x81#8], .addAC), ([0x82#8], .addAD), ([0x83#8], .addAE), ([0x84#8], .addAH),
    ([0x85#8], .addAL), ([0x86#8], .addAHLInd), ([0x87#8], .addAA)] : List Row) ++
  ([([0x88#8], .adcAB), ([0x89#8], .adcAC), ([0x8A#8], .adcAD), ([0x8B#8], .adcAE), ([0x8C#8], .adcAH),
    ([0x8D#8], .adcAL), ([0x8E#8], .adcAHLInd), ([0x8F#8], .adcAA)] : List Row) ++
  ([([0x90#8], .subB), ([0x91#8], .subC), ([0x92#8], .subD), ([0x93#8], .subE), ([0x94#8], .subH),
    ([0x95#8], .subL), ([0x96#8], .subHLInd), ([0x97#8], .subA)] : List Row) ++
  ([([0x98#8], .sbcAB), ([0x99#8], .sbcAC), ([0x9A#8], .sbcAD), ([0x9B#8], .sbcAE), ([0x9C#8], .sbcAH),
    ([0x9D#8], .sbcAL), ([0x9E#8], .sbcAHLInd), ([0x9F#8], .sbcAA)] : List Row) ++
  ([([0xA0#8], .andB), ([0xA1#8], .andC), ([0xA2#8], .andD), ([0xA3#8], .andE), ([0xA4#8], .andH),
    ([0xA5#8], .andL), ([0xA6#8], .andHLInd), ([0xA7#8], .andA)] : List Row) ++
  ([([0xA8#8], .xorB), ([0xA9#8], .xorC), ([0xAA#8], .xorD), ([0xAB#8], .xorE), ([0xAC#8], .xorH),
    ([0xAD#8], .xorL), ([0xAE#8], .xorHLInd), ([0xAF#8], .xorA)] : List Row) ++
  ([([0xB0#8], .orB), ([0xB1#8], .orC), ([0xB2#8], .orD), ([0xB3#8], .orE), ([0xB4#8], .orH),
    ([0xB5#8], .orL), ([0xB6#8], .orHLInd), ([0xB7#8], .orA)] : List Row) ++
  ([([0xB8#8], .cpB), ([0xB9#8], .cpC), ([0xBA#8], .cpD), ([0xBB#8], .cpE), ([0xBC#8], .cpH),
    ([0xBD#8], .cpL), ([0xBE#8], .cpHLInd), ([0xBF#8], .cpA)] : List Row)

theorem test_decode_aluWords : aluWords.all decodesTo = true := by decide

/-- Byte loads, 0x40 to 0x7F without 0x76, and the eight with an immediate 0x5A (R88). -/
def loadByteWords : List Row :=
  ([([0x06#8, 0x5A#8], .ldBD8 0x5A#8), ([0x0E#8, 0x5A#8], .ldCD8 0x5A#8),
    ([0x16#8, 0x5A#8], .ldDD8 0x5A#8), ([0x1E#8, 0x5A#8], .ldED8 0x5A#8),
    ([0x26#8, 0x5A#8], .ldHD8 0x5A#8), ([0x2E#8, 0x5A#8], .ldLD8 0x5A#8),
    ([0x36#8, 0x5A#8], .ldHLIndD8 0x5A#8), ([0x3E#8, 0x5A#8], .ldAD8 0x5A#8)] : List Row) ++
  ([([0x40#8], .ldBB), ([0x41#8], .ldBC), ([0x42#8], .ldBD), ([0x43#8], .ldBE), ([0x44#8], .ldBH),
    ([0x45#8], .ldBL), ([0x46#8], .ldBHLInd), ([0x47#8], .ldBA)] : List Row) ++
  ([([0x48#8], .ldCB), ([0x49#8], .ldCC), ([0x4A#8], .ldCD), ([0x4B#8], .ldCE), ([0x4C#8], .ldCH),
    ([0x4D#8], .ldCL), ([0x4E#8], .ldCHLInd), ([0x4F#8], .ldCA)] : List Row) ++
  ([([0x50#8], .ldDB), ([0x51#8], .ldDC), ([0x52#8], .ldDD), ([0x53#8], .ldDE), ([0x54#8], .ldDH),
    ([0x55#8], .ldDL), ([0x56#8], .ldDHLInd), ([0x57#8], .ldDA)] : List Row) ++
  ([([0x58#8], .ldEB), ([0x59#8], .ldEC), ([0x5A#8], .ldED), ([0x5B#8], .ldEE), ([0x5C#8], .ldEH),
    ([0x5D#8], .ldEL), ([0x5E#8], .ldEHLInd), ([0x5F#8], .ldEA)] : List Row) ++
  ([([0x60#8], .ldHB), ([0x61#8], .ldHC), ([0x62#8], .ldHD), ([0x63#8], .ldHE), ([0x64#8], .ldHH),
    ([0x65#8], .ldHL), ([0x66#8], .ldHHLInd), ([0x67#8], .ldHA)] : List Row) ++
  ([([0x68#8], .ldLB), ([0x69#8], .ldLC), ([0x6A#8], .ldLD), ([0x6B#8], .ldLE), ([0x6C#8], .ldLH),
    ([0x6D#8], .ldLL), ([0x6E#8], .ldLHLInd), ([0x6F#8], .ldLA)] : List Row) ++
  ([([0x70#8], .ldHLIndB), ([0x71#8], .ldHLIndC), ([0x72#8], .ldHLIndD), ([0x73#8], .ldHLIndE),
    ([0x74#8], .ldHLIndH), ([0x75#8], .ldHLIndL), ([0x77#8], .ldHLIndA), ([0x78#8], .ldAB)] : List Row) ++
  ([([0x79#8], .ldAC), ([0x7A#8], .ldAD), ([0x7B#8], .ldAE), ([0x7C#8], .ldAH), ([0x7D#8], .ldAL),
    ([0x7E#8], .ldAHLInd), ([0x7F#8], .ldAA)] : List Row)

theorem test_decode_loadByteWords : loadByteWords.all decodesTo = true := by decide

/-- Word loads, the immediate 0x1234 low byte first (R87, R88). -/
def loadWordWords : List Row :=
  ([([0x01#8, 0x34#8, 0x12#8], .ldBCD16 0x1234#16), ([0x11#8, 0x34#8, 0x12#8], .ldDED16 0x1234#16),
    ([0x21#8, 0x34#8, 0x12#8], .ldHLD16 0x1234#16),
    ([0x31#8, 0x34#8, 0x12#8], .ldSPD16 0x1234#16)] : List Row)

theorem test_decode_loadWordWords : loadWordWords.all decodesTo = true := by decide

/-- Stores of A; LD (C),A skips the byte 0xFF (R88, R98). -/
def storeWords : List Row :=
  ([([0x02#8], .ldBCIndA), ([0x12#8], .ldDEIndA), ([0x22#8], .ldHLIncA), ([0x32#8], .ldHLDecA),
    ([0xE2#8, 0xFF#8], .ldCIndA), ([0xEA#8, 0x34#8, 0x12#8], .ldA16IndA 0x1234#16)] : List Row)

theorem test_decode_storeWords : storeWords.all decodesTo = true := by decide

/-- Bit tests, 0xCB then 0x40 to 0x7F (R89). -/
def bitWords : List Row :=
  ([([0xCB#8, 0x40#8], .bit0B), ([0xCB#8, 0x41#8], .bit0C), ([0xCB#8, 0x42#8], .bit0D),
    ([0xCB#8, 0x43#8], .bit0E), ([0xCB#8, 0x44#8], .bit0H), ([0xCB#8, 0x45#8], .bit0L),
    ([0xCB#8, 0x46#8], .bit0HLInd), ([0xCB#8, 0x47#8], .bit0A)] : List Row) ++
  ([([0xCB#8, 0x48#8], .bit1B), ([0xCB#8, 0x49#8], .bit1C), ([0xCB#8, 0x4A#8], .bit1D),
    ([0xCB#8, 0x4B#8], .bit1E), ([0xCB#8, 0x4C#8], .bit1H), ([0xCB#8, 0x4D#8], .bit1L),
    ([0xCB#8, 0x4E#8], .bit1HLInd), ([0xCB#8, 0x4F#8], .bit1A)] : List Row) ++
  ([([0xCB#8, 0x50#8], .bit2B), ([0xCB#8, 0x51#8], .bit2C), ([0xCB#8, 0x52#8], .bit2D),
    ([0xCB#8, 0x53#8], .bit2E), ([0xCB#8, 0x54#8], .bit2H), ([0xCB#8, 0x55#8], .bit2L),
    ([0xCB#8, 0x56#8], .bit2HLInd), ([0xCB#8, 0x57#8], .bit2A)] : List Row) ++
  ([([0xCB#8, 0x58#8], .bit3B), ([0xCB#8, 0x59#8], .bit3C), ([0xCB#8, 0x5A#8], .bit3D),
    ([0xCB#8, 0x5B#8], .bit3E), ([0xCB#8, 0x5C#8], .bit3H), ([0xCB#8, 0x5D#8], .bit3L),
    ([0xCB#8, 0x5E#8], .bit3HLInd), ([0xCB#8, 0x5F#8], .bit3A)] : List Row) ++
  ([([0xCB#8, 0x60#8], .bit4B), ([0xCB#8, 0x61#8], .bit4C), ([0xCB#8, 0x62#8], .bit4D),
    ([0xCB#8, 0x63#8], .bit4E), ([0xCB#8, 0x64#8], .bit4H), ([0xCB#8, 0x65#8], .bit4L),
    ([0xCB#8, 0x66#8], .bit4HLInd), ([0xCB#8, 0x67#8], .bit4A)] : List Row) ++
  ([([0xCB#8, 0x68#8], .bit5B), ([0xCB#8, 0x69#8], .bit5C), ([0xCB#8, 0x6A#8], .bit5D),
    ([0xCB#8, 0x6B#8], .bit5E), ([0xCB#8, 0x6C#8], .bit5H), ([0xCB#8, 0x6D#8], .bit5L),
    ([0xCB#8, 0x6E#8], .bit5HLInd), ([0xCB#8, 0x6F#8], .bit5A)] : List Row) ++
  ([([0xCB#8, 0x70#8], .bit6B), ([0xCB#8, 0x71#8], .bit6C), ([0xCB#8, 0x72#8], .bit6D),
    ([0xCB#8, 0x73#8], .bit6E), ([0xCB#8, 0x74#8], .bit6H), ([0xCB#8, 0x75#8], .bit6L),
    ([0xCB#8, 0x76#8], .bit6HLInd), ([0xCB#8, 0x77#8], .bit6A)] : List Row) ++
  ([([0xCB#8, 0x78#8], .bit7B), ([0xCB#8, 0x79#8], .bit7C), ([0xCB#8, 0x7A#8], .bit7D),
    ([0xCB#8, 0x7B#8], .bit7E), ([0xCB#8, 0x7C#8], .bit7H), ([0xCB#8, 0x7D#8], .bit7L),
    ([0xCB#8, 0x7E#8], .bit7HLInd), ([0xCB#8, 0x7F#8], .bit7A)] : List Row)

theorem test_decode_bitWords : bitWords.all decodesTo = true := by decide

/-- The bytes of E14, E19, E20 have no entry in the first table, those of E23 none in the second. -/
theorem test_decode_unassigned :
    [0x76#8, 0x0A#8, 0x1A#8, 0x2A#8, 0x3A#8, 0xFA#8, 0xF2#8, 0x00#8, 0x10#8, 0xC3#8, 0xCD#8, 0xC9#8, 0xFF#8,
      0xCB#8].all (fun b => decide (decodeByte b false = none)) = true ∧
    [0x3F#8, 0x80#8, 0x00#8, 0xFF#8, 0xCB#8].all (fun b => decide (decodeByte b true = none)) = true := by
  decide

set_option maxRecDepth 4000 in
/-- E25: 145 entries in the first table and 64 in the second. -/
theorem test_decode_entry_counts :
    ((List.range 256).filter (fun n => (decodeByte (BitVec.ofNat 8 n) false).isSome)).length = 145 ∧
    ((List.range 256).filter (fun n => (decodeByte (BitVec.ofNat 8 n) true).isSome)).length = 64 := by
  decide

/-- The two host definitions on an operand row: 0x21 with no operand bits is LD HL,0x0000. -/
theorem test_decode_table_word :
    decodeTableWord 8 0x21 = some (.ldHLD16 0x0000#16) ∧
    decodeTableWord 24 0x123421 = some (.ldHLD16 0x1234#16) ∧
    decodeTableWord 16 0x7CCB = some .bit7H := by
  decide

/-! ### Small states -/

/-- The reset state with the given bytes at 0x0000 and the given RAM (keys above them, rising). -/
def small (code : List Byte) (ram : Memory) : State :=
  { State.reset with mem := Memory.ofBytes 0 code ++ ram }

/-- The step succeeds with the count, and the condition holds afterwards. -/
def goes (s : State) (cycles : Nat) (p : State → Bool) : Bool :=
  match step s with
  | .next t => decide (t.report = .elapsed cycles) && p t
  | _ => false

/-- The step halts on the condition and leaves everything else as it was. -/
def halts (s : State) (cond : Condition) : Bool :=
  match step s with
  | .next t => decide (t.report = .condition cond) && decide (t = { s with run := .halted cond, cycles := none })
  | _ => false

/-- One row of 2.4: A, B and the carry flag before; A and the packed flags after; the opcode is the form's
with operand B. The other three flags are set before, and B must be as before. -/
def aluRow (opcode : Byte) (row : Byte × Byte × Bool × Byte × Byte) : Bool :=
  match row with
  | (a, v, cin, a', f) =>
    goes { small [opcode] [] with a := a, b := v, flags := ⟨true, true, true, cin⟩ } 4
      (fun t => decide (t.a = a' ∧ t.flags.toByte = f ∧ t.b = v ∧ t.pc = 1#16))

/-! ### Flags and pairs (FP1 to FP7, S2) -/

theorem test_flags_pack :
    (Flags.mk true false true false).toByte = 0xA0#8 ∧ (Flags.fromByte 0x5F#8).toByte = 0x50#8 ∧
    Flags.clear.toByte = 0x00#8 ∧ Flags.fromByte 0x93#8 = Flags.fromByte 0x9C#8 := by decide

theorem test_pairs :
    getPair .HL { State.reset with h := 0x12#8, l := 0x34#8 } = 0x1234#16 ∧
    getPair .AF { State.reset with a := 0x01#8, flags := ⟨true, false, false, true⟩ } = 0x0190#16 ∧
    getPair .AF (setPair .AF 0x12FF#16 State.reset) = 0x12F0#16 ∧
    (setPair .BC 0x00FF#16 State.reset).b = 0x00#8 ∧ (setPair .BC 0x00FF#16 State.reset).c = 0xFF#8 := by
  decide

/-! ### The bus (M1 to M24) -/

/-- The setup of M1 to M24. -/
def busSetup : State :=
  { State.reset with
    overlayEnabled := true
    boot := some [(0x00, 0x31#8), (0xFF, 0x50#8)]
    mem := [(0x0000, 0xC3#8), (0x00FF, 0x11#8), (0x0100, 0x22#8), (0x3FFF, 0x33#8), (0x4000, 0x44#8),
      (0x7FFF, 0x55#8), (0xC000, 0x77#8), (0xDDFF, 0x78#8), (0xDE00, 0x79#8)] }

/-- A write that raises nothing, then a read. -/
def writeThenRead (a : Word) (v : Byte) (x : Word) : Option Byte :=
  match busWrite a v busSetup with
  | .ok t => some (busRead t x)
  | .error _ => none

theorem test_bus_reads :
    [0x0000#16, 0x00FF#16, 0x0100#16, 0x3FFF#16, 0x4000#16, 0x7FFF#16].map (busRead busSetup) =
      [0x31#8, 0x50#8, 0x22#8, 0x33#8, 0x44#8, 0x55#8] ∧
    [0x0000#16, 0x00FF#16].map (busRead (disableOverlay busSetup)) = [0xC3#8, 0x11#8] ∧
    [0x8000#16, 0x9FFF#16, 0xFE00#16, 0xFFFF#16].map (busRead busSetup) = [0x00#8, 0x00#8, 0x00#8, 0x00#8] ∧
    [0xC000#16, 0xE000#16, 0xDDFF#16, 0xFDFF#16, 0xDE00#16].map (busRead busSetup) =
      [0x77#8, 0x77#8, 0x78#8, 0x78#8, 0x79#8] := by decide

theorem test_bus_writes :
    writeThenRead 0x8000#16 0x99#8 0x8000#16 = some 0x00#8 ∧
    writeThenRead 0xA000#16 0xAB#8 0xA000#16 = some 0xAB#8 ∧
    writeThenRead 0xBFFF#16 0x01#8 0xBFFF#16 = some 0x01#8 ∧
    writeThenRead 0xC123#16 0x5A#8 0xE123#16 = some 0x5A#8 ∧
    writeThenRead 0xE000#16 0x12#8 0xC000#16 = none ∧
    writeThenRead 0xFDFF#16 0x12#8 0xC000#16 = none ∧
    writeThenRead 0xFE9F#16 0x12#8 0xFE9F#16 = some 0x00#8 ∧
    writeThenRead 0xFEFF#16 0x12#8 0xFEFF#16 = some 0x00#8 ∧
    writeThenRead 0xFF7F#16 0x12#8 0xFF7F#16 = some 0x00#8 ∧
    writeThenRead 0xFF50#16 0x01#8 0x0000#16 = some 0x31#8 ∧
    writeThenRead 0xFF80#16 0xA1#8 0xFF80#16 = some 0xA1#8 ∧
    writeThenRead 0xFFFE#16 0xA2#8 0xFFFE#16 = some 0xA2#8 ∧
    writeThenRead 0xFFFF#16 0x00#8 0xC000#16 = none ∧
    writeThenRead 0x0000#16 0x99#8 0x0000#16 = some 0x31#8 ∧
    writeThenRead 0x7FFF#16 0x99#8 0x7FFF#16 = some 0x55#8 := by decide

/-! ### Arithmetic and logic (AD1 to AH3) -/

theorem test_add :
    [(0xFF#8, 0x01#8, false, 0x00#8, 0xB0#8), (0x0F#8, 0x01#8, false, 0x10#8, 0x20#8),
      (0xF0#8, 0x10#8, false, 0x00#8, 0x90#8), (0x12#8, 0x34#8, true, 0x46#8, 0x00#8)].all (aluRow 0x80#8) =
      true := by decide

theorem test_adc :
    [(0x0F#8, 0x00#8, true, 0x10#8, 0x20#8), (0xFF#8, 0xFF#8, true, 0xFF#8, 0x30#8),
      (0x00#8, 0xFF#8, true, 0x00#8, 0xB0#8), (0x0E#8, 0x01#8, true, 0x10#8, 0x20#8)].all (aluRow 0x88#8) =
      true := by decide

theorem test_sub :
    [(0x00#8, 0x01#8, false, 0xFF#8, 0x70#8), (0x3E#8, 0x0F#8, false, 0x2F#8, 0x60#8),
      (0x3E#8, 0x40#8, false, 0xFE#8, 0x50#8), (0x10#8, 0x01#8, true, 0x0F#8, 0x60#8)].all (aluRow 0x90#8) =
      true := by decide

theorem test_sbc :
    [(0x3B#8, 0x2A#8, true, 0x10#8, 0x40#8), (0x00#8, 0x00#8, true, 0xFF#8, 0x70#8),
      (0x00#8, 0xFF#8, true, 0x00#8, 0xF0#8), (0x10#8, 0x0F#8, true, 0x00#8, 0xE0#8)].all (aluRow 0x98#8) =
      true := by decide

theorem test_and :
    [(0x5A#8, 0x3F#8, false, 0x1A#8, 0x20#8), (0xF0#8, 0x0F#8, false, 0x00#8, 0xA0#8),
      (0xFF#8, 0xFF#8, true, 0xFF#8, 0x20#8)].all (aluRow 0xA0#8) = true := by decide

theorem test_xor :
    [(0xFF#8, 0x0F#8, false, 0xF0#8, 0x00#8), (0x55#8, 0x55#8, true, 0x00#8, 0x80#8),
      (0xAA#8, 0x00#8, false, 0xAA#8, 0x00#8)].all (aluRow 0xA8#8) = true := by decide

theorem test_or :
    [(0x5A#8, 0x0F#8, false, 0x5F#8, 0x00#8), (0x00#8, 0x00#8, true, 0x00#8, 0x80#8)].all (aluRow 0xB0#8) =
      true := by decide

theorem test_cp :
    [(0x05#8, 0x05#8, false, 0x05#8, 0xC0#8), (0x3C#8, 0x40#8, false, 0x3C#8, 0x50#8),
      (0xFF#8, 0x00#8, true, 0xFF#8, 0x40#8)].all (aluRow 0xB8#8) = true := by decide

/-- AA1 to AA10, with the carry flag set on entry. -/
theorem test_alu_operand_a :
    [(0x87#8, 0x10#8, 0x30#8), (0x8F#8, 0x11#8, 0x30#8), (0x97#8, 0x00#8, 0xC0#8), (0x9F#8, 0xFF#8, 0x70#8),
      (0xA7#8, 0x88#8, 0x20#8), (0xAF#8, 0x00#8, 0x80#8), (0xB7#8, 0x88#8, 0x00#8),
      (0xBF#8, 0x88#8, 0xC0#8)].all (fun row =>
        goes { small [row.1] [] with a := 0x88#8, flags := ⟨false, false, false, true⟩ } 4
          (fun t => decide (t.a = row.2.1 ∧ t.flags.toByte = row.2.2))) = true := by decide

/-- AH1 to AH3. -/
theorem test_alu_operand_hli :
    goes { small [0x86#8] [(0xC123, 0xFF#8)] with a := 0x01#8, h := 0xC1#8, l := 0x23#8 } 8
      (fun t => decide (t.a = 0x00#8 ∧ t.flags.toByte = 0xB0#8 ∧ busRead t 0xC123#16 = 0xFF#8)) = true ∧
    goes { small [0xBE#8] [] with h := 0x80#8 } 8
      (fun t => decide (t.a = 0x00#8 ∧ t.flags.toByte = 0xC0#8)) = true ∧
    goes { small [0xB6#8] [(0xC005, 0x80#8)] with a := 0x01#8, h := 0xE0#8, l := 0x05#8 } 8
      (fun t => decide (t.a = 0x81#8 ∧ t.flags.toByte = 0x00#8)) = true := by decide

/-! ### Byte loads (LB1 to LB24) -/

theorem test_load_register :
    goes { small [0x47#8] [] with a := 0x99#8, b := 0x12#8, flags := ⟨true, true, true, true⟩ } 4
      (fun t => decide (t.b = 0x99#8 ∧ t.a = 0x99#8 ∧ t.flags.toByte = 0xF0#8 ∧ t.pc = 1#16)) = true ∧
    goes { small [0x65#8] [] with h := 0x01#8, l := 0x02#8 } 4
      (fun t => decide (t.h = 0x02#8 ∧ t.l = 0x02#8)) = true := by decide

/-- LB5, LB6, LB7, LB8, LB9. -/
theorem test_load_from_memory :
    goes { small [0x66#8] [(0xC010, 0xAB#8)] with h := 0xC0#8, l := 0x10#8 } 8
      (fun t => decide (t.h = 0xAB#8 ∧ t.l = 0x10#8)) = true ∧
    goes { small [0x6E#8] [(0xC010, 0xAB#8)] with h := 0xC0#8, l := 0x10#8 } 8
      (fun t => decide (t.h = 0xC0#8 ∧ t.l = 0xAB#8)) = true ∧
    goes { small [0x7E#8] [] with a := 0x55#8, h := 0x90#8 } 8 (fun t => decide (t.a = 0x00#8)) = true ∧
    goes { small [0x7E#8] [(0xC100, 0x77#8)] with h := 0xE1#8 } 8 (fun t => decide (t.a = 0x77#8)) = true ∧
    goes (small [0x4E#8] []) 8 (fun t => decide (t.c = 0x4E#8)) = true := by decide

/-- LB11, LB12, LB13, LB17. -/
theorem test_store_register :
    goes { small [0x74#8] [] with h := 0xC0#8, l := 0x34#8 } 8
      (fun t => decide (busRead t 0xC034#16 = 0xC0#8)) = true ∧
    goes { small [0x75#8] [] with h := 0xC0#8, l := 0x34#8 } 8
      (fun t => decide (busRead t 0xC034#16 = 0x34#8)) = true ∧
    goes { small [0x70#8] [] with b := 0x99#8, h := 0x20#8 } 8
      (fun t => decide (busRead t 0x2000#16 = 0x00#8 ∧ t.pc = 1#16)) = true ∧
    goes { small [0x70#8] [] with b := 0x99#8, h := 0xFF#8, l := 0x80#8 } 8
      (fun t => decide (busRead t 0xFF80#16 = 0x99#8)) = true := by decide

/-- LB14, LB15, LB23. -/
theorem test_store_halts :
    halts { small [0x70#8] [] with b := 0x99#8, h := 0xFF#8, l := 0xFF#8 }
      (.unmappedWrite 0xFFFF#16 0x99#8) = true ∧
    halts { small [0x70#8] [] with b := 0x99#8, h := 0xE0#8 } (.unmappedWrite 0xE000#16 0x99#8) = true ∧
    halts { small [0x36#8, 0x0F#8] [] with h := 0xFF#8, l := 0xFF#8 }
      (.unmappedWrite 0xFFFF#16 0x0F#8) = true := by decide

/-- LB20, LB21, LB22, LB24. -/
theorem test_load_immediate :
    goes { small [] [(0x7FFE, 0x2E#8), (0x7FFF, 0xFF#8)] with pc := 0x7FFE#16 } 8
      (fun t => decide (t.l = 0xFF#8 ∧ t.pc = 0x8000#16)) = true ∧
    goes { small [] [(0x7FFF, 0x1E#8)] with pc := 0x7FFF#16, e := 0x77#8 } 8
      (fun t => decide (t.e = 0x00#8 ∧ t.pc = 0x8001#16)) = true ∧
    goes { small [] [(0xFFFE, 0x06#8)] with pc := 0xFFFE#16, b := 0x77#8 } 8
      (fun t => decide (t.b = 0x00#8 ∧ t.pc = 0x0000#16)) = true ∧
    goes { small [0x36#8, 0x0F#8] [] with h := 0xC0#8 } 8
      (fun t => decide (busRead t 0xC000#16 = 0x0F#8 ∧ t.pc = 0x0002#16)) = true := by decide

/-! ### Word loads (LW1 to LW8) -/

theorem test_load_word :
    goes (small [0x01#8, 0x10#8, 0xC0#8] []) 12
      (fun t => decide (t.b = 0xC0#8 ∧ t.c = 0x10#8 ∧ t.pc = 3#16)) = true ∧
    goes (small [0x11#8, 0xFF#8, 0xDD#8] []) 12 (fun t => decide (t.d = 0xDD#8 ∧ t.e = 0xFF#8)) = true ∧
    goes (small [0x21#8, 0xFF#8, 0xDF#8] []) 12 (fun t => decide (t.h = 0xDF#8 ∧ t.l = 0xFF#8)) = true ∧
    goes { small [0x31#8, 0x00#8, 0xFF#8] [] with flags := ⟨true, true, true, true⟩ } 12
      (fun t => decide (t.sp = 0xFF00#16 ∧ t.flags.toByte = 0xF0#8 ∧ t.pc = 3#16)) = true := by decide

/-- LW7, LW8: the immediate through Echo RAM and across 0xFFFF. -/
theorem test_load_word_fetch_edges :
    goes { small [] [(0xC000, 0x33#8), (0xDFFE, 0x11#8), (0xDFFF, 0x22#8)] with pc := 0xDFFE#16 } 12
      (fun t => decide (t.e = 0x22#8 ∧ t.d = 0x33#8 ∧ t.pc = 0xE001#16)) = true ∧
    goes { small [0x34#8] [(0xFFFE, 0x01#8)] with pc := 0xFFFE#16 } 12
      (fun t => decide (t.c = 0x00#8 ∧ t.b = 0x34#8 ∧ t.pc = 0x0001#16)) = true := by decide

/-! ### Stores of A (ST1 to ST17) -/

/-- ST1, ST2, ST11. -/
theorem test_store_a_pair_and_absolute :
    goes { small [0x02#8] [] with a := 0x5A#8, b := 0xC0#8, c := 0x10#8 } 8
      (fun t => decide (busRead t 0xC010#16 = 0x5A#8 ∧ t.pc = 1#16)) = true ∧
    goes { small [0x12#8] [] with a := 0x5A#8, d := 0xDD#8, e := 0xFF#8 } 8
      (fun t => decide (busRead t 0xDDFF#16 = 0x5A#8 ∧ busRead t 0xFDFF#16 = 0x5A#8)) = true ∧
    goes { small [0xEA#8, 0x00#8, 0xA0#8] [] with a := 0x10#8 } 16
      (fun t => decide (busRead t 0xA000#16 = 0x10#8 ∧ t.pc = 3#16)) = true := by decide

/-- ST3, ST5, ST6, ST8, ST9. -/
theorem test_store_a_and_step_hl :
    goes { small [0x22#8] [] with a := 0x5A#8, h := 0xFF#8, l := 0xFE#8 } 8
      (fun t => decide (busRead t 0xFFFE#16 = 0x5A#8 ∧ getPair .HL t = 0xFFFF#16)) = true ∧
    goes { small [0x22#8] [] with a := 0x5A#8, h := 0x00#8, l := 0xFF#8 } 8
      (fun t => decide (busRead t 0x00FF#16 = 0x00#8 ∧ getPair .HL t = 0x0100#16)) = true ∧
    goes { small [0x22#8] [] with a := 0x5A#8, h := 0xC0#8, l := 0xFF#8 } 8
      (fun t => decide (busRead t 0xC0FF#16 = 0x5A#8 ∧ getPair .HL t = 0xC100#16)) = true ∧
    goes { small [0x32#8] [] with a := 0x11#8 } 8 (fun t => decide (getPair .HL t = 0xFFFF#16)) = true ∧
    goes { small [0x32#8] [] with a := 0x11#8, h := 0xDF#8 } 8
      (fun t => decide (busRead t 0xDF00#16 = 0x11#8 ∧ getPair .HL t = 0xDEFF#16)) = true := by decide

/-- ST4, ST10, ST12, ST16. -/
theorem test_store_a_halts :
    halts { small [0x22#8] [] with a := 0x5A#8, h := 0xFF#8, l := 0xFF#8 }
      (.unmappedWrite 0xFFFF#16 0x5A#8) = true ∧
    halts { small [0x32#8] [] with a := 0x11#8, h := 0xE0#8 } (.unmappedWrite 0xE000#16 0x11#8) = true ∧
    halts { small [0xEA#8, 0xFF#8, 0xFF#8] [] with a := 0x10#8 } (.unmappedWrite 0xFFFF#16 0x10#8) = true ∧
    halts { small [0xE2#8, 0x00#8] [] with a := 0x10#8, c := 0xFF#8 }
      (.unmappedWrite 0xFFFF#16 0x10#8) = true := by decide

/-- ST14, ST15, ST17. -/
theorem test_store_a_high_page :
    goes { small [0xE2#8, 0xFF#8] [] with a := 0x10#8, c := 0x80#8 } 8
      (fun t => decide (busRead t 0xFF80#16 = 0x10#8 ∧ t.pc = 2#16)) = true ∧
    goes { small [0xE2#8, 0x00#8] [] with a := 0x10#8, c := 0x50#8 } 8
      (fun t => decide (t.mem = (small [0xE2#8, 0x00#8] []).mem ∧ t.pc = 2#16)) = true ∧
    goes { small [0xE2#8, 0x00#8] [] with a := 0x10#8, c := 0xFE#8 } 8
      (fun t => decide (busRead t 0xFFFE#16 = 0x10#8)) = true := by decide

/-! ### Bit test (BT1 to BT11) -/

theorem test_bit_register :
    [(0x9F#8, 0x7C#8, 0x30#8), (0x7F#8, 0x7C#8, 0xB0#8), (0x01#8, 0x44#8, 0x30#8),
      (0x01#8, 0x4C#8, 0xB0#8)].all (fun row =>
        goes { small [0xCB#8, row.2.1] [] with h := row.1, flags := Flags.fromByte 0x50#8 } 8
          (fun t => decide (t.flags.toByte = row.2.2 ∧ t.h = row.1 ∧ t.pc = 2#16))) = true := by decide

theorem test_bit_memory :
    goes { small [0xCB#8, 0x5E#8] [(0xC000, 0x08#8)] with h := 0xC0#8 } 12
      (fun t => decide (t.flags.toByte = 0x20#8)) = true ∧
    goes { small [0xCB#8, 0x66#8] [(0xC000, 0x08#8)] with h := 0xC0#8 } 12
      (fun t => decide (t.flags.toByte = 0xA0#8)) = true ∧
    goes { small [0xCB#8, 0x76#8] [] with h := 0xFF#8, l := 0x44#8, flags := Flags.fromByte 0x10#8 } 12
      (fun t => decide (t.flags.toByte = 0xB0#8)) = true := by decide

/-! ### Illegal opcodes, the halted core, construction -/

/-- IL1, IL2, IL4, IL8, IL9, IL11, IL12. -/
theorem test_illegal_opcodes :
    halts { small [0x00#8] [] with a := 0x01#8, flags := Flags.fromByte 0x90#8 }
      (.illegalOpcode 0x00#8 false) = true ∧
    halts (small [0x76#8] []) (.illegalOpcode 0x76#8 false) = true ∧
    halts (small [0xC3#8] []) (.illegalOpcode 0xC3#8 false) = true ∧
    halts (small [0xCB#8, 0x37#8] []) (.illegalOpcode 0x37#8 true) = true ∧
    halts (small [0xCB#8, 0xCB#8] []) (.illegalOpcode 0xCB#8 true) = true ∧
    halts { small [] [(0x7FFF, 0xCB#8)] with pc := 0x7FFF#16 } (.illegalOpcode 0x00#8 true) = true ∧
    halts { small [] [] with pc := 0x8000#16 } (.illegalOpcode 0x00#8 false) = true := by decide

/-- HS1, HS3. -/
theorem test_halted_core :
    step { State.reset with run := .halted (.illegalOpcode 0x00#8 false) } =
      .next { State.reset with run := .halted (.illegalOpcode 0x00#8 false) } ∧
    act .disableOverlay { busSetup with run := .halted (.illegalOpcode 0x00#8 false) } =
      .next { busSetup with run := .halted (.illegalOpcode 0x00#8 false), overlayEnabled := false } :=
  ⟨rfl, rfl⟩

/-- A cartridge image and RAM contents for the construction tests. -/
def constructWith (boot : Option (List Byte)) (cartLength : Nat) : Result :=
  construct boot (List.replicate cartLength 0x00#8) (Vector.replicate 8192 0#8) (Vector.replicate 8192 0#8)
    (Vector.replicate 127 0#8) 0#16

/-- CN5, CN7, and an overlay of one byte: refused. -/
theorem test_construction_refused :
    constructWith (some []) 0 = .refused .invalidImageSize ∧
    constructWith (some [0x31#8]) 0 = .refused .invalidImageSize ∧
    constructWith none 0 = .refused .invalidImageSize := by
  unfold constructWith construct
  rw [if_pos (by decide), if_pos (by decide), if_neg (by decide), if_pos (by decide)]
  exact ⟨rfl, rfl, rfl⟩

/-! ### The placing operation -/

theorem test_placed_word_runs_after_reset :
    fetchDecode (State.reset.withFetchWord 8 0x80) = .ok .addAB ∧
    fetchDecode (State.reset.withFetchWord 16 0x7CCB) = .ok .bit7H ∧
    (step (State.reset.withFetchWord 24 0x123421) =
      exec (.ldHLD16 0x1234#16) (State.reset.withFetchWord 24 0x123421)) := ⟨rfl, rfl, rfl⟩

/-! ### Witnesses: every obligation with hypotheses has states and operands that meet them -/

/-- A running state with an enabled overlay, bytes in ROM and RAM, and no register at its reset value. -/
def busy : State :=
  { busSetup with
    a := 0x5A#8, b := 0xC0#8, c := 0x10#8, d := 0xDD#8, e := 0xFF#8, h := 0xC0#8, l := 0x00#8
    flags := ⟨false, true, false, true⟩, pc := 0x0100#16, sp := 0xFFFE#16 }

/-- `busy` with the given bytes at PC, an address in cartridge RAM. -/
def busyAt (code : List Byte) : State :=
  { busy with pc := 0xA000#16, mem := Memory.ofBytes 0xA000 code ++ [(0xC000, 0x77#8)] }

/-- `busy` with HL at an address. -/
def busyHl (a : Word) : State :=
  setPair .HL a busy

/-- A halted core. -/
def halted : State :=
  { busy with run := .halted (.unmappedWrite 0xFFFF#16 0x5A#8) }

theorem busy_inv : Inv busy := by
  refine ⟨by unfold memOk; decide, ?_, fun _ => rfl, ?_, ?_⟩
  · rintro image ⟨⟩
    unfold imageOk
    decide
  · rintro cond ⟨⟩
  · rintro n ⟨⟩

theorem halted_inv : Inv halted := by
  refine ⟨busy_inv.mem, busy_inv.boot, busy_inv.overlay, ?_, busy_inv.cycles⟩
  rintro cond ⟨⟩
  exact ⟨.inl rfl, rfl⟩

theorem witness_DecodedBytesAreTheEncoding :
    (∃ i rest, decode [0x80#8, 0x11#8] = .ok (i, rest)) ∧ decode [0xE2#8, 0x11#8] = .ok (.ldCIndA, []) :=
  ⟨⟨_, _, rfl⟩, rfl⟩

theorem witness_PrefixByteSelectsTheSecondTable :
    (busRead (busyAt [0xCB#8, 0x80#8]) 0xA000#16 = 0xCB#8 ∧ decodeByte 0x80#8 true = none) ∧
    (busRead (busyAt [0xCB#8, 0x7F#8]) 0xA000#16 = 0xCB#8 ∧ decodeByte 0x7F#8 true = some (.bit 7 (.reg .A))) ∧
    (busRead (busyAt [0xCC#8]) 0xA000#16 ≠ 0xCB#8 ∧ decodeByte 0xCC#8 false = none) ∧
    (busRead (busyAt [0xBF#8]) 0xA000#16 ≠ 0xCB#8 ∧ decodeByte 0xBF#8 false = some (.alu .cp (.reg .A))) := by
  decide

theorem witness_ImmediatesAreTheBytesAfterTheOpcode :
    [0x06#8, 0x0E#8, 0x16#8, 0x1E#8, 0x26#8, 0x2E#8, 0x3E#8] =
      [Reg8.B, .C, .D, .E, .H, .L, .A].map (fun t => BitVec.ofNat 8 (0x06 + 8 * regCode t)) ∧
    [0x06#8, 0x3E#8, 0x36#8, 0x01#8, 0x11#8, 0x21#8, 0x31#8, 0xEA#8].all
      (fun b => busRead (busyAt [b, 0xFF#8, 0x80#8]) (busyAt [b]).pc == b) = true := by
  decide

theorem witness_StepFetchesDecodesExecutes :
    busy.run = .running ∧ decodeWindow 0x80#8 0x00#8 0x00#8 = .ok .addAB ∧
    decodeWindow 0xCB#8 0x00#8 0x00#8 = .error ⟨0x00#8, true⟩ ∧
    [0x80#8, 0x00#8, 0x00#8] =
      [(busyAt [0x80#8]).pc, (busyAt [0x80#8]).pc + 1#16, (busyAt [0x80#8]).pc + 2#16].map
        (busRead (busyAt [0x80#8])) :=
  ⟨rfl, rfl, rfl, by decide⟩

theorem witness_IllegalOpcodeHaltsUnchanged :
    (busyAt [0x00#8]).run = .running ∧ busRead (busyAt [0x00#8]) (busyAt [0x00#8]).pc = 0x00#8 ∧
    decodeByte 0x00#8 false = none ∧
    busRead (busyAt [0xCB#8, 0x3F#8]) (busyAt [0xCB#8]).pc = 0xCB#8 ∧
    busRead (busyAt [0xCB#8, 0x3F#8]) ((busyAt [0xCB#8]).pc + 1#16) = 0x3F#8 ∧
    decodeByte 0x3F#8 true = none := by
  decide

theorem witness_HaltedCoreStaysHalted :
    halted.run = .halted (.unmappedWrite 0xFFFF#16 0x5A#8) ∧ HostAction.disableOverlay ∉ [HostAction.step] ∧
    HostAction.disableOverlay ∈ [HostAction.step, .disableOverlay] := by
  decide

theorem witness_FailingStepChangesOnlyTheRunState :
    ∃ t, step (busyAt [0x00#8]) = .next t ∧ (busyAt [0x00#8]).run = .running ∧ t.run ≠ .running :=
  ⟨_, rfl, rfl, by decide⟩

theorem witness_FetchFromPlaceholderIsIllegal :
    [0x8000#16, 0x9FFF#16, 0xFE00#16, 0xFEA0#16, 0xFF00#16, 0xFF7F#16, 0xFFFF#16].all (fun a =>
      decide ({ busy with pc := a }.run = .running ∧
        ((0x8000 ≤ a.toNat ∧ a.toNat ≤ 0x9FFF) ∨ (0xFE00 ≤ a.toNat ∧ a.toNat ≤ 0xFF7F) ∨ a = 0xFFFF#16))) =
      true := by
  decide

theorem witness_PcAdvancesByInstructionLength :
    (∃ t, step (busyAt [0x31#8, 0x00#8, 0xFF#8]) = .next t ∧ t.run = .running ∧ t.pc = 0xA003#16) ∧
    (∃ t, step (busyAt [0x00#8]) = .next t ∧ t.run ≠ .running) :=
  ⟨⟨_, rfl, rfl, rfl⟩, _, rfl, by decide⟩

theorem witness_CycleCountAndLengthByForm :
    (∃ t, exec (.ldA16IndA 0xA000#16) busy = .next t ∧ t.run = .running) ∧
    (∃ t, exec (.ldA16IndA 0xFFFF#16) busy = .next t ∧ t.run ≠ .running) :=
  ⟨⟨_, rfl, rfl⟩, _, rfl, by decide⟩

theorem witness_EveryRunReachesAFailingStep : busy.run = .running ∧ State.reset.run = .running := by decide

theorem witness_StepIgnoresSpAndCycleCount : (busyAt [0x31#8, 0x00#8, 0xFF#8]).run = .running := by decide

theorem witness_BusReadFollowsTheMap :
    (busy.overlayEnabled = true ∧ busy.boot = some [(0x00, 0x31#8), (0xFF, 0x50#8)] ∧
      (0x00FF#16).toNat ≤ 0x00FF) ∧
    (disableOverlay busy).overlayEnabled = false ∧ 0x00FF < (0x0100#16).toNat := by
  decide

theorem witness_OverlayHasPriorityOverRom :
    busy.boot = some [(0x00, 0x31#8), (0xFF, 0x50#8)] ∧ busy.overlayEnabled = true ∧
    (0x00FF#16).toNat ≤ 0x00FF ∧ 0x0100 ≤ (0x0100#16).toNat := by
  decide

theorem witness_EchoRamReadsItsMirror :
    memOk busy.mem ∧ [0xE000#16, 0xFDFF#16].all
      (fun a => decide (0xE000 ≤ a.toNat ∧ a.toNat ≤ 0xFDFF)) = true :=
  ⟨busy_inv.mem, by decide⟩

theorem witness_PlaceholdersAndUnusedRangeReadZero :
    [0x8000#16, 0x9FFF#16, 0xFE00#16, 0xFE9F#16, 0xFF00#16, 0xFF7F#16, 0xFFFF#16].all (fun a =>
      decide ((0x8000 ≤ a.toNat ∧ a.toNat ≤ 0x9FFF) ∨ (0xFE00 ≤ a.toNat ∧ a.toNat ≤ 0xFE9F) ∨
        (0xFF00 ≤ a.toNat ∧ a.toNat ≤ 0xFF7F) ∨ a = 0xFFFF#16)) = true ∧
    [0xFEA0#16, 0xFEFF#16].all (fun a => decide (0xFEA0 ≤ a.toNat ∧ a.toNat ≤ 0xFEFF)) = true := by
  decide

theorem witness_EchoWritePolicies :
    [0xE000#16, 0xFDFF#16].all (fun a => decide (0xE000 ≤ a.toNat ∧ a.toNat ≤ 0xFDFF)) = true := by decide

theorem witness_WrittenByteReadsBack :
    memOk busy.mem ∧
    [0xA000#16, 0xDFFF#16, 0xFF80#16, 0xFFFE#16].all (fun a => decide (isRam a)) = true ∧
    (∃ t u, busWrite 0xA000#16 0x12#8 busy = .ok t ∧ (0xDFFF#16 : Word) ≠ 0xA000#16 ∧
      busWrite 0xDFFF#16 0x34#8 t = .ok u) :=
  ⟨busy_inv.mem, by decide, _, _, rfl, by decide, rfl⟩

theorem witness_CanonicalStoresThatReadAlikeAreEqual :
    ∃ m n : Memory, m ≠ [] ∧ Memory.wf m ∧ Memory.wf n ∧ ∀ k, Memory.read m k = Memory.read n k :=
  ⟨busy.mem, busy.mem, by decide, busy_inv.mem.1, busy_inv.mem.1, fun _ => rfl⟩

theorem witness_LoadMemoryCompletesWhereWritesAreAccepted :
    [0x0000#16, 0xDFFF#16, 0xFE00#16, 0xFFFE#16].all
      (fun a => decide (acceptsWrite ((busyHl a).h ++ (busyHl a).l) ∧ (busyHl a).h ++ (busyHl a).l = a)) =
      true := by
  decide

theorem witness_OnlyLoadSpWritesSp :
    ∃ t, exec (.ldSPD16 0xFF00#16) busy = .next t ∧ t.sp ≠ busy.sp := ⟨_, rfl, by decide⟩

theorem witness_StoreAToPairOrAbsoluteAddress :
    acceptsWrite (busy.b ++ busy.c) ∧ acceptsWrite (busy.d ++ busy.e) ∧
    acceptsWrite (0xDF#8 ++ 0xFF#8 : Word) ∧ acceptsWrite (0xFE#8 ++ 0x00#8 : Word) := by
  decide

theorem witness_StoreAAndStepHl :
    [0x0000#16, 0xDFFF#16, 0xFE00#16, 0xFFFE#16].all
      (fun a => decide (acceptsWrite ((busyHl a).h ++ (busyHl a).l))) = true := by
  decide

theorem witness_StoreAToHighPage :
    [0x00#8, 0x7F#8, 0x80#8, 0xFE#8].all (fun c => decide ({ busy with c := c }.c ≠ 0xFF#8)) = true ∧
    { busy with c := 0xFF#8 }.c = 0xFF#8 := by
  decide

theorem witness_StoreToInterruptEnableHalts :
    [Instr.ldHLIndB, .ldHLIndC, .ldHLIndD, .ldHLIndE, .ldHLIndH, .ldHLIndL, .ldHLIndA, .ldHLIndD8 0x0F#8,
      .ldHLIncA, .ldHLDecA, .ldA16IndA 0xFFFF#16].all
        (fun i => decide (storeAddress i (busyHl 0xFFFF#16) = some 0xFFFF#16)) = true ∧
    storeAddress .ldBCIndA { busy with b := 0xFF#8, c := 0xFF#8 } = some 0xFFFF#16 ∧
    storeAddress .ldDEIndA { busy with d := 0xFF#8, e := 0xFF#8 } = some 0xFFFF#16 ∧
    storeAddress .ldCIndA { busy with c := 0xFF#8 } = some 0xFFFF#16 := by
  decide

theorem witness_StoreToEchoRamHalts :
    [0xE000#16, 0xFDFF#16].all (fun a =>
      decide (storeAddress .ldHLIndB (busyHl a) = some a ∧ 0xE000 ≤ a.toNat ∧ a.toNat ≤ 0xFDFF)) = true := by
  decide

theorem witness_RegisterFormFrame :
    (∃ t, storeAddress .addAB busy = none ∧ exec .addAB busy = .next t ∧ t.a ≠ busy.a) ∧
    (∃ t, storeAddress (.ldHLD16 0x1234#16) busy = none ∧ exec (.ldHLD16 0x1234#16) busy = .next t ∧
      t.h ≠ busy.h) ∧
    (∃ t, storeAddress .ldBA busy = none ∧ exec .ldBA busy = .next t ∧ t.b ≠ busy.b) ∧
    (∃ t, storeAddress (.ldSPD16 0x1234#16) busy = none ∧ exec (.ldSPD16 0x1234#16) busy = .next t ∧
      t.sp ≠ busy.sp) :=
  ⟨⟨_, rfl, rfl, by decide⟩, ⟨_, rfl, rfl, by decide⟩, ⟨_, rfl, rfl, by decide⟩, _, rfl, rfl, by decide⟩

theorem witness_StoreFormFrame :
    ∃ t, storeAddress .ldHLIncA busy = some 0xC000#16 ∧ exec .ldHLIncA busy = .next t ∧
      busRead t 0xC000#16 ≠ busRead busy 0xC000#16 ∧ getReg .L t ≠ getReg .L busy ∧
      ¬ shows 0xC000#16 0xC001#16 ∧ shows 0xC000#16 0xE000#16 :=
  ⟨_, rfl, rfl, by decide, by decide, by unfold shows; decide, by unfold shows; decide⟩

theorem witness_OnlyAluAndBitWriteFlags :
    (∃ t, exec .addAB busy = .next t ∧ t.flags ≠ busy.flags) ∧
    (∃ t, exec .bit7H busy = .next t ∧ t.flags ≠ busy.flags ∧ Instr.value .bit7H = .bit 7 (.reg .H)) :=
  ⟨⟨_, rfl, by decide⟩, _, rfl, by decide, rfl⟩

theorem witness_NoStepChangesAnImage :
    ∃ t, step { busyAt [0x22#8] with h := 0x01#8 } = .next t ∧ t.run = .running ∧
      (0x7FFF#16).toNat ≤ 0x7FFF :=
  ⟨_, rfl, rfl, by decide⟩

theorem witness_StepKeepsInvariant :
    (∃ t, Inv busy ∧ step busy = .next t ∧ t.mem ≠ busy.mem) ∧
    (∃ t, Inv State.reset ∧ step State.reset = .next t) ∧ ∃ t, Inv halted ∧ step halted = .next t := by
  refine ⟨⟨_, busy_inv, rfl, by decide⟩, ⟨_, ⟨?_, ?_, ?_, ?_, ?_⟩, rfl⟩, _, halted_inv, rfl⟩
  · unfold memOk
    decide
  · rintro image ⟨⟩
  · rintro ⟨⟩
  · rintro cond ⟨⟩
  · rintro n ⟨⟩

theorem witness_HostActionsKeepInvariant :
    ∃ t, Inv busy ∧ hostRun [.disableOverlay, .step] busy = .next t ∧ t.overlayEnabled = false :=
  ⟨_, busy_inv, rfl, rfl⟩

theorem witness_ConstructionRefusesWrongSizes :
    (([0x31#8] : List Byte).length ≠ 256 ∧ (List.replicate 32767 0x00#8).length < 32768) ∧
    (List.replicate 256 0x00#8).length = 256 ∧ 32768 ≤ (List.replicate 32768 0x00#8).length := by
  simp only [List.length_replicate]
  decide

theorem witness_ConstructedStateHoldsTheImages :
    ∃ t, construct (some (List.replicate 256 0x31#8)) (List.replicate 65536 0x22#8)
      (Vector.replicate 8192 0x33#8) (Vector.replicate 8192 0x44#8) (Vector.replicate 127 0x55#8) 0xFFFE#16 =
      .next t := by
  unfold construct
  rw [if_neg (by rw [Option.any_some, List.length_replicate]; decide),
    if_neg (by rw [List.length_replicate]; decide)]
  exact ⟨_, rfl⟩

theorem witness_DisableOverlayUncoversRom : (0x00FF#16).toNat ≤ 0x00FF := by decide

theorem witness_PlacedInstructionIsTheNextOneRun :
    (Inv busy ∧ decodeTableWord 8 0x80 = some .addAB) ∧ Inv halted ∧
    decodeTableWord 24 0x123421 = some (.ldHLD16 0x1234#16) :=
  ⟨⟨busy_inv, by decide⟩, halted_inv, by decide⟩

end Sys2Proof.Tests
end

/-! ## The invariant along every sequence of host actions (O54) -/

namespace Sys2Proof.Machine

/-! ### The stored bytes -/

/-- A region a write stores to is one that has storage. -/
theorem isStored_of_writable {r : Region} (h : writable r) : isStored r = true := by
  obtain rfl | rfl | rfl := h <;> rfl

/-- A store behind an address with storage keeps the stored bytes canonical and in place. -/
theorem memOk_write {m : Memory} {a : Word} (hm : memOk m) (ha : isStored (regionOf a) = true) (v : Byte) :
    memOk (Memory.write m a.toNat v) := by
  obtain ⟨hwf, hplace⟩ := hm
  refine ⟨Memory.wf_write hwf a.toNat v, fun x hx => ?_⟩
  obtain hx | ⟨rfl, -⟩ := Memory.mem_write hx
  · exact hplace x hx
  · exact ⟨a.isLt, by rwa [BitVec.ofNat_toNat, BitVec.setWidth_eq]⟩

/-! ### What a step returns -/

/-- Every count of R263's table is one of the four in use (R117). -/
theorem formCycles_inUse (v : Value) :
    formCycles v = 4 ∨ formCycles v = 8 ∨ formCycles v = 12 ∨ formCycles v = 16 := by
  unfold formCycles
  split <;> decide

/-- The byte that a failed fetch reports makes a condition that can occur (R223). -/
theorem conditionOk_of_fetchDecode_error {s : State} {e : Illegal} (h : fetchDecode s = .error e) :
    conditionOk (.illegalOpcode e.byte e.prefixed) :=
  decodeWindow_error h

/-! ### The invariant, one update at a time -/

/-- Halting with a condition that can occur keeps the invariant. -/
theorem Inv.raise {s : State} {cond : Condition} (hs : Inv s) (hc : conditionOk cond) :
    Inv (raise cond s) where
  mem := hs.mem
  boot := hs.boot
  overlay := hs.overlay
  run := by
    rintro _ ⟨⟩
    exact ⟨hc, rfl⟩
  cycles := by
    rintro _ ⟨⟩

/-- An instruction of a running core that completes keeps the invariant, if it keeps the stored bytes in
order. -/
theorem Inv.of_completes {i : Instr} {s t : State} (hs : Inv s) (hr : s.run = .running)
    (hm : memOk t.mem) (hc : Completes i s t) : Inv t where
  mem := hm
  boot := hc.boot ▸ hs.boot
  overlay := by
    rw [hc.overlay, hc.boot]
    exact hs.overlay
  run := by
    intro cond h
    rw [hc.run, hr] at h
    cases h
  cycles := by
    intro n h
    rw [hc.cycles] at h
    obtain rfl := Option.some.inj h
    exact formCycles_inUse i.value

/-- Disabling the overlay keeps the invariant: a disabled overlay needs no image. -/
theorem Inv.disableOverlay {s : State} (hs : Inv s) : Inv (disableOverlay s) where
  mem := hs.mem
  boot := hs.boot
  overlay := by rintro ⟨⟩
  run := hs.run
  cycles := hs.cycles

/-! ### Instructions, steps and host actions -/

/-- Every instruction of a running core keeps the invariant. -/
theorem exec_keeps_inv {i : Instr} {s t : State} (hs : Inv s) (hr : s.run = .running)
    (h : exec i s = .next t) : Inv t := by
  rcases exec_cases i s with ⟨-, u, hu, hm, hc⟩ | ⟨a, u, -, -, hu, hm, -, -, hc⟩ |
      ⟨a, u, -, hw, hu, hm, -, -, hc⟩ | ⟨a, -, hbad, hu⟩ <;>
    obtain rfl := Host.Outcome.next.inj (h.symm.trans hu)
  · exact hs.of_completes hr (hm ▸ hs.mem) hc
  · exact hs.of_completes hr (hm ▸ hs.mem) hc
  · exact hs.of_completes hr (hm ▸ memOk_write hs.mem (isStored_of_writable hw) _) hc
  · exact hs.raise hbad.symm

/-- Every step keeps the invariant. -/
theorem step_keeps_inv {s t : State} (hs : Inv s) (h : step s = .next t) : Inv t := by
  rcases step_cases s with ⟨-, hu⟩ | ⟨-, e, he, hu⟩ | ⟨hr, i, -, hu⟩ <;> rw [hu] at h
  · obtain rfl := Host.Outcome.next.inj h
    exact hs
  · obtain rfl := Host.Outcome.next.inj h
    exact hs.raise (conditionOk_of_fetchDecode_error he)
  · exact exec_keeps_inv hs hr h

/-- Every host action keeps the invariant. -/
theorem act_keeps_inv {x : HostAction} {s t : State} (hs : Inv s) (h : act x s = .next t) : Inv t := by
  cases x with
  | step => exact step_keeps_inv hs h
  | disableOverlay =>
    obtain rfl := Host.Outcome.next.inj h
    exact hs.disableOverlay

/-- A sequence that answers a state does so by way of the state its first action answers. -/
theorem hostRun_cons_eq_next {x : HostAction} {rest : List HostAction} {s t : State} :
    hostRun (x :: rest) s = .next t ↔ ∃ u, act x s = .next u ∧ hostRun rest u = .next t := by
  cases h : act x s <;> simp [hostRun, h]

/-- What every host action keeps, every sequence of them keeps. -/
theorem hostRun_keeps {P : State → Prop}
    (keeps : ∀ {x : HostAction} {s t : State}, P s → act x s = .next t → P t)
    {acts : List HostAction} {s t : State} (hs : P s) (h : hostRun acts s = .next t) : P t := by
  induction acts generalizing s with
  | nil =>
    obtain rfl := Host.Outcome.next.inj h
    exact hs
  | cons x rest ih =>
    obtain ⟨u, hu, hrest⟩ := hostRun_cons_eq_next.mp h
    exact ih (keeps hs hu) hrest

/-- Settles O54: each host action keeps the invariant, so by induction on the list every sequence does. -/
theorem hostActionsKeepInvariant : Obligations.HostActionsKeepInvariant :=
  fun _ _ _ hs h => hostRun_keeps act_keeps_inv hs h

end Sys2Proof.Machine

/-! ## Flags, pairs, reset, and what a step does with PC and SP (O12, O15 to O18, O52, O53, O55) -/

namespace Sys2Proof.Machine

/-! ### The flags byte and the pairs -/

/-- The packed byte is the sum of the flags' weights: the sum fits a byte, so nothing wraps (R12). -/
theorem Flags.toByte_toNat (f : Flags) :
    f.toByte.toNat = f.z.toNat * 0x80 + f.n.toNat * 0x40 + f.h.toNat * 0x20 + f.c.toNat * 0x10 := by
  have hz := f.z.toNat_lt
  have hn := f.n.toNat_lt
  have hh := f.h.toNat_lt
  have hc := f.c.toNat_lt
  rw [Flags.toByte, BitVec.toNat_ofNat]
  omega

/-- Unpacking keeps the four high bits, and packing puts them back with zeros below (R12). -/
@[simp] theorem Flags.toByte_fromByte : ∀ v : Byte, (Flags.fromByte v).toByte = v &&& 0xF0#8 := by
  decide

/-- The four flags of a packed byte are the flags packed. -/
@[simp] theorem Flags.fromByte_toByte (f : Flags) : Flags.fromByte f.toByte = f := by
  have packed : ∀ z n h c : Bool, Flags.fromByte (Flags.toByte ⟨z, n, h, c⟩) = ⟨z, n, h, c⟩ := by decide
  exact packed f.z f.n f.h f.c

/-- The low byte's bits are the word's. -/
theorem getLsbD_loByte (w : Word) {k : Nat} (hk : k < 8) : (loByte w).getLsbD k = w.getLsbD k := by
  simp [loByte, hk]

/-- Masking the low byte of a word is masking the word with a mask whose high byte is full. -/
theorem join_and_mask (w : Word) (m : Byte) :
    join (hiByte w) (loByte w &&& m) = w &&& join 0xFF#8 m := by
  have hfull : hiByte w &&& 0xFF#8 = hiByte w := BitVec.and_allOnes
  calc join (hiByte w) (loByte w &&& m)
      = join (hiByte w &&& 0xFF#8) (loByte w &&& m) := by rw [hfull]
    _ = join (hiByte w) (loByte w) &&& join 0xFF#8 m := BitVec.and_append.symm
    _ = w &&& join 0xFF#8 m := by rw [join_halves]

/-- A pair of general registers reads back the word written to it (R15). -/
theorem getPair_setPair {p : PairView} (hp : p ≠ .AF) (w : Word) (s : State) :
    getPair p (setPair p w s) = w := by
  cases p with
  | AF => exact absurd rfl hp
  | BC => exact join_halves w
  | DE => exact join_halves w
  | HL => exact join_halves w

/-- AF reads back the word without its low four bits, which the flags byte does not hold (R15, C2). -/
theorem getPair_setPair_AF (w : Word) (s : State) : getPair .AF (setPair .AF w s) = w &&& 0xFFF0#16 := by
  calc getPair .AF (setPair .AF w s)
      = join (hiByte w) (Flags.fromByte (loByte w)).toByte := rfl
    _ = join (hiByte w) (loByte w &&& 0xF0#8) := by rw [Flags.toByte_fromByte]
    _ = w &&& 0xFFF0#16 := join_and_mask w 0xF0#8

/-- Settles O16: the packed byte as a sum, and the two round trips. -/
theorem flagsPackAndUnpack : Obligations.FlagsPackAndUnpack :=
  fun f v => ⟨f.toByte_toNat, rfl, Flags.fromByte_toByte f, Flags.toByte_fromByte v⟩

/-- Settles O17: each read is the register's or the bus's by definition. -/
theorem pairAndOperandReads : Obligations.PairAndOperandReads :=
  fun _ => ⟨rfl, rfl, rfl, rfl, rfl, rfl, rfl, rfl, rfl, rfl, rfl, rfl⟩

/-- Settles O18: the halves of a word as R15's formulas give them, and the pairs read back. -/
theorem pairWritesReadBack : Obligations.PairWritesReadBack := by
  intro s w
  have hflags : Flags.fromByte (loByte w) = ⟨w.getLsbD 7, w.getLsbD 6, w.getLsbD 5, w.getLsbD 4⟩ := by
    simp only [Flags.fromByte, getLsbD_loByte, Nat.reduceLT]
  rw [← hiByte_eq_ofNat, ← loByte_eq_ofNat, ← hflags]
  exact ⟨rfl, rfl, rfl, rfl, getPair_setPair (by decide) w s, getPair_setPair (by decide) w s,
    getPair_setPair (by decide) w s, getPair_setPair_AF w s⟩

/-! ### The state after reset -/

/-- Bytes that read as unlisted leave no entry in a loaded image. -/
theorem Memory.ofBytes_replicate_unlisted (base n : Nat) :
    Memory.ofBytes base (List.replicate n Params.unlistedByte) = [] := by
  induction n generalizing base with
  | zero => rfl
  | succ n ih => rw [List.replicate_succ, Memory.ofBytes, if_pos rfl, ih]

/-- Storage that holds nothing is in order. -/
theorem memOk_nil : memOk [] :=
  ⟨Memory.wf_nil, by simp⟩

/-- Settles O53: nothing is stored, there is no image, the core runs and has returned no count. -/
theorem resetMeetsInvariant : Obligations.ResetMeetsInvariant where
  mem := memOk_nil
  boot := by rintro _ ⟨⟩
  overlay := by rintro ⟨⟩
  run := by rintro _ ⟨⟩
  cycles := by rintro _ ⟨⟩

/-- Construction with zeros everywhere and no overlay gives the state after reset (R250). -/
theorem construct_zeros :
    construct none (List.replicate 32768 0#8) (Vector.replicate 8192 0#8) (Vector.replicate 8192 0#8)
      (Vector.replicate 127 0#8) 0#16 = .next State.reset := by
  have himage (base n : Nat) : Memory.ofBytes base (List.replicate n 0#8) = [] :=
    Memory.ofBytes_replicate_unlisted base n
  rw [construct, if_neg nofun, if_neg (by rw [List.length_replicate]; decide), List.take_replicate]
  simp only [Vector.toList_replicate, himage]
  rfl

/-- Settles O55: the reset values by definition, the constructed state because zeros leave no entry. -/
theorem resetIsAConstructedState : Obligations.ResetIsAConstructedState :=
  ⟨rfl, rfl, rfl, rfl, rfl, rfl, rfl, rfl, rfl, rfl, rfl, construct_zeros⟩

/-! ### The invariant and PC over a step -/

/-- Settles O52: what a step can do (nothing, halt on an unassigned byte, execute) keeps the invariant. -/
theorem stepKeepsInvariant : Obligations.StepKeepsInvariant :=
  fun _ _ hs h => step_keeps_inv hs h

/-- The PC advance of R263's table is the length of the form's encoding (R80). -/
theorem format_length (v : Value) : v.format.length = formLength v := by
  cases v with
  | alu op src => rfl
  | ldByte t src => cases src <;> rfl
  | ldWord rr => rfl
  | stA dest => cases dest <;> rfl
  | bit index src => rfl

/-- Every instruction has one, two or three bytes (R80, R90). -/
theorem length_range (i : Instr) : 1 ≤ i.length ∧ i.length ≤ 3 := by
  unfold Instr.length
  cases i.value.format <;> decide

/-- An instruction that completes advances PC by its length, modulo 65536 (R116, D10). -/
theorem Completes.pc_toNat {i : Instr} {s t : State} (h : Completes i s t) :
    t.pc.toNat = (s.pc.toNat + i.length) % 65536 := by
  rw [h.pc, ← format_length, BitVec.toNat_add, BitVec.toNat_ofNat, Nat.add_mod_mod]
  rfl

/-- An instruction completes, or it halts the core and leaves PC. -/
theorem exec_completes_or_halts {i : Instr} {s t : State} (h : exec i s = .next t) :
    Completes i s t ∨ (t.run ≠ .running ∧ t.pc = s.pc) := by
  rcases exec_cases i s with ⟨-, u, hu, -, hc⟩ | ⟨_, u, -, -, hu, -, -, -, hc⟩ |
      ⟨_, u, -, -, hu, -, -, -, hc⟩ | ⟨_, -, -, hu⟩ <;>
    obtain rfl := Host.Outcome.next.inj (h.symm.trans hu)
  · exact .inl hc
  · exact .inl hc
  · exact .inl hc
  · exact .inr ⟨nofun, rfl⟩

/-- Settles O12: a step of a running core halts it with PC as it was, or completes the instruction it
fetched. -/
theorem pcAdvancesByInstructionLength : Obligations.PcAdvancesByInstructionLength := by
  intro s t hr h
  rcases step_cases s with ⟨⟨cond, hhalted⟩, -⟩ | ⟨-, e, -, hu⟩ | ⟨-, i, hf, hu⟩
  · rw [hr] at hhalted
    cases hhalted
  · obtain rfl := Host.Outcome.next.inj (h.symm.trans hu)
    exact .inr ⟨nofun, rfl⟩
  · rcases exec_completes_or_halts (hu ▸ h) with hc | hhalts
    · obtain ⟨hlow, hhigh⟩ := length_range i
      exact .inl ⟨hc.run.trans hr, i, hf, hlow, hhigh, hc.pc_toNat⟩
    · exact .inr hhalts

/-! ### SP and the returned count are inputs to nothing

The state with another SP and another count is followed through every operation. SP comes out as it went
in and the old count is overwritten, which `passSp` says of an outcome; LD SP,d16 overwrites both. -/

/-- The state with another stack pointer and another last returned count. -/
def withSpAndCycles (w : Word) (c : Option Nat) (s : State) : State :=
  { s with sp := w, cycles := c }

/-- An outcome whose next state has another stack pointer. -/
def passSp (w : Word) : Result → Result
  | .next t => .next (setSp w t)
  | .fault r => .fault r
  | .refused r => .refused r

section
variable (w : Word) (c : Option Nat) (s : State)

@[simp] theorem getReg_withSpAndCycles (r : Reg8) : getReg r (withSpAndCycles w c s) = getReg r s := by
  cases r <;> rfl

@[simp] theorem setReg_withSpAndCycles (r : Reg8) (v : Byte) :
    setReg r v (withSpAndCycles w c s) = withSpAndCycles w c (setReg r v s) := by
  cases r <;> rfl

@[simp] theorem setPair_withSpAndCycles (p : PairView) (v : Word) :
    setPair p v (withSpAndCycles w c s) = withSpAndCycles w c (setPair p v s) := by
  cases p <;> rfl

@[simp] theorem operandRead_withSpAndCycles (o : Operand8) :
    operandRead o (withSpAndCycles w c s) = operandRead o s := by
  cases o with
  | reg r => exact getReg_withSpAndCycles w c s r
  | hli => rfl

@[simp] theorem advance_withSpAndCycles (len cyc : Nat) :
    advance len cyc (withSpAndCycles w c s) = setSp w (advance len cyc s) := rfl

/-- A write has the same effect on the rest of the state. -/
@[simp] theorem busWrite_withSpAndCycles (a : Word) (v : Byte) :
    busWrite a v (withSpAndCycles w c s) = (busWrite a v s).map (withSpAndCycles w c) := by
  unfold busWrite busWriteUnder
  cases regionOf a <;> rfl

@[simp] theorem operandWrite_withSpAndCycles (o : Operand8) (v : Byte) :
    operandWrite o v (withSpAndCycles w c s) = (operandWrite o v s).map (withSpAndCycles w c) := by
  cases o with
  | reg r => exact congrArg Except.ok (setReg_withSpAndCycles w c s r v)
  | hli => exact busWrite_withSpAndCycles w c s _ v

/-- An instruction that may fail on a write passes SP through if what follows the write does. -/
theorem finish_withSpAndCycles (written : Except Condition State) {rest rest' : State → State}
    (h : ∀ t, rest' (withSpAndCycles w c t) = setSp w (rest t)) :
    finish (written.map (withSpAndCycles w c)) rest' (withSpAndCycles w c s) =
      passSp w (finish written rest s) := by
  cases written with
  | ok t => exact congrArg Host.Outcome.next (h t)
  | error cond => rfl

theorem execAlu_withSpAndCycles (op : AluOp) (src : Operand8) :
    execAlu op src (withSpAndCycles w c s) = passSp w (execAlu op src s) := by
  unfold execAlu
  rw [operandRead_withSpAndCycles]
  cases op <;> rfl

theorem execBit_withSpAndCycles (index : Nat) (src : Operand8) :
    execBit index src (withSpAndCycles w c s) = passSp w (execBit index src s) := by
  unfold execBit
  rw [operandRead_withSpAndCycles]
  rfl

theorem execLdByte_withSpAndCycles (target : Operand8) (v : Byte) (len cyc : Nat) :
    execLdByte target v len cyc (withSpAndCycles w c s) = passSp w (execLdByte target v len cyc s) := by
  unfold execLdByte
  rw [operandWrite_withSpAndCycles]
  exact finish_withSpAndCycles w c s _ fun t => advance_withSpAndCycles w c t len cyc

theorem execLdPair_withSpAndCycles (p : PairView) (imm : Word) :
    execLdPair p imm (withSpAndCycles w c s) = passSp w (execLdPair p imm s) := by
  unfold execLdPair
  rw [setPair_withSpAndCycles]
  rfl

theorem execStA_withSpAndCycles (dest : StoreDest) (imm : Word) :
    exec (.ofStA dest imm) (withSpAndCycles w c s) = passSp w (exec (.ofStA dest imm) s) := by
  have haddress : addressStoreA dest imm (withSpAndCycles w c s) = addressStoreA dest imm s := by
    cases dest <;> rfl
  have hrest (t : State) : afterStoreA dest (withSpAndCycles w c s) (withSpAndCycles w c t) =
      setSp w (afterStoreA dest s t) := by
    cases dest <;> rfl
  rw [exec_ofStA, exec_ofStA, haddress, execStore, busWrite_withSpAndCycles]
  exact finish_withSpAndCycles w c s _ hrest

end

/-- No instruction's effect depends on SP or the count: LD SP,d16 sets both, every other passes SP through and
sets the count. -/
theorem exec_withSpAndCycles (i : Instr) (s : State) :
    (∀ w c, exec i (withSpAndCycles w c s) = passSp w (exec i s)) ∨
    (∀ w c, exec i (withSpAndCycles w c s) = exec i s) := by
  induction i using Laws.instr_forms with
  | alu op src => exact .inl fun w c => by simpa only [exec_ofAlu] using execAlu_withSpAndCycles w c s op src
  | ldRR t src =>
    refine .inl fun w c => ?_
    rw [exec_ofLdRR, exec_ofLdRR, execLdRegReg, operandRead_withSpAndCycles]
    exact execLdByte_withSpAndCycles w c s ..
  | ldRHL t =>
    refine .inl fun w c => ?_
    rw [exec_ofLdRHL, exec_ofLdRHL, execLdRegInd, operandRead_withSpAndCycles]
    exact execLdByte_withSpAndCycles w c s ..
  | ldHLR src =>
    refine .inl fun w c => ?_
    rw [exec_ofLdHLR, exec_ofLdHLR, execLdIndReg, operandRead_withSpAndCycles]
    exact execLdByte_withSpAndCycles w c s ..
  | ldRD8 t imm =>
    refine .inl fun w c => ?_
    rw [exec_ofLdRD8, exec_ofLdRD8]
    exact execLdByte_withSpAndCycles w c s ..
  | ldHLD8 imm => exact .inl fun w c => execLdByte_withSpAndCycles w c s ..
  | ldWord rr imm =>
    cases rr with
    | BC => exact .inl fun w c => execLdPair_withSpAndCycles w c s .BC imm
    | DE => exact .inl fun w c => execLdPair_withSpAndCycles w c s .DE imm
    | HL => exact .inl fun w c => execLdPair_withSpAndCycles w c s .HL imm
    | SP => exact .inr fun _ _ => rfl
  | stA dest imm => exact .inl fun w c => execStA_withSpAndCycles w c s dest imm
  | bit index src =>
    exact .inl fun w c => by simpa only [exec_ofBit] using execBit_withSpAndCycles w c s index.val src

/-- Nor does a running core's step: the fetch reads PC and the bus only. -/
theorem step_withSpAndCycles {s : State} (hr : s.run = .running) :
    (∀ w c, step (withSpAndCycles w c s) = passSp w (step s)) ∨
    (∀ w c, step (withSpAndCycles w c s) = step s) := by
  have hfetch (w : Word) (c : Option Nat) : fetchDecode (withSpAndCycles w c s) = fetchDecode s := rfl
  cases hf : fetchDecode s with
  | error e =>
    refine .inl fun w c => ?_
    rw [step_illegal hr hf]
    exact step_illegal hr ((hfetch w c).trans hf)
  | ok i =>
    have hstep (w : Word) (c : Option Nat) :
        step (withSpAndCycles w c s) = exec i (withSpAndCycles w c s) :=
      step_running hr ((hfetch w c).trans hf)
    rw [step_running hr hf]
    exact (exec_withSpAndCycles i s).imp (fun h w c => (hstep w c).trans (h w c))
      (fun h w c => (hstep w c).trans (h w c))

/-- Every step has a next state (R113, R119). -/
theorem step_next (s : State) : ∃ t, step s = .next t := by
  rcases step_cases s with ⟨-, h⟩ | ⟨-, _, -, h⟩ | ⟨-, i, -, h⟩
  · exact ⟨s, h⟩
  · exact ⟨_, h⟩
  · exact h ▸ exec_next i s

/-- A running core's step overwrites the count. -/
theorem step_ignores_cycles {s : State} (hr : s.run = .running) (c : Option Nat) :
    step { s with cycles := c } = step s := by
  obtain h | h := step_withSpAndCycles hr
  · exact (h s.sp c).trans (h s.sp s.cycles).symm
  · exact h s.sp c

/-- A running core's step passes SP through or loads it, whatever it was. -/
theorem step_running_ignores_sp {s : State} (hr : s.run = .running) (w : Word) :
    ∃ t, step s = .next t ∧ ((t.sp = s.sp ∧ step { s with sp := w } = .next { t with sp := w }) ∨
      step { s with sp := w } = .next t) := by
  obtain ⟨t, ht⟩ := step_next s
  refine ⟨t, ht, ?_⟩
  obtain h | h := step_withSpAndCycles hr <;> rw [ht] at h
  · have hsame : Host.Outcome.next t = .next (setSp s.sp t) := ht.symm.trans (h s.sp s.cycles)
    have hsp : t.sp = (setSp s.sp t).sp := congrArg State.sp (Host.Outcome.next.inj hsame)
    exact .inl ⟨hsp, h w s.cycles⟩
  · exact .inr (h w s.cycles)

/-- A halted core's step passes SP through too, since it changes nothing. -/
theorem step_ignores_sp (s : State) (w : Word) :
    ∃ t, step s = .next t ∧ ((t.sp = s.sp ∧ step { s with sp := w } = .next { t with sp := w }) ∨
      step { s with sp := w } = .next t) := by
  rcases step_cases s with ⟨⟨cond, hr⟩, hu⟩ | ⟨hr, -⟩ | ⟨hr, -⟩
  · exact ⟨s, hu, .inl ⟨rfl, step_halted (s := withSpAndCycles w s.cycles s) hr⟩⟩
  · exact step_running_ignores_sp hr w
  · exact step_running_ignores_sp hr w

/-- Settles O15: a halted core's step changes nothing, and a running core's is followed from the state with
another SP and count, operation by operation. -/
theorem stepIgnoresSpAndCycleCount : Obligations.StepIgnoresSpAndCycleCount :=
  ⟨step_ignores_sp, fun _ c hr => step_ignores_cycles hr c⟩

end Sys2Proof.Machine

/-! ## The bus and the stored bytes (O19 to O26, O45, O46, O51, O58) -/

namespace Sys2Proof.Machine

/-! ### The regions as address ranges (R41) -/

theorem regionOf_eq_echoRam_iff {a : Word} :
    regionOf a = .echoRam ↔ 0xE000 ≤ a.toNat ∧ a.toNat ≤ 0xFDFF := by
  have hline := regionOf_table a
  cases hr : regionOf a <;>
    simp only [hr, reduceCtorEq, and_true, and_false, false_or, or_false, true_iff,
      false_iff] at hline ⊢ <;>
    omega

/-- The regions with storage of their own are ROM and the three RAM buffers. -/
theorem isStored_regionOf_iff {a : Word} :
    isStored (regionOf a) = true ↔ a.toNat ≤ 0x7FFF ∨ isRam a := by
  have hline := regionOf_table a
  cases hr : regionOf a <;>
    simp only [hr, isStored, reduceCtorEq, and_true, and_false, false_or, or_false, true_iff,
      false_iff] at hline ⊢ <;>
    omega

/-- The regions a write stores to are the three RAM buffers (R51). -/
theorem writable_regionOf_iff {a : Word} : writable (regionOf a) ↔ isRam a := by
  have hline := regionOf_table a
  unfold writable
  cases hr : regionOf a <;>
    simp only [hr, reduceCtorEq, and_true, and_false, false_or, or_false, or_true, true_iff,
      false_iff] at hline ⊢ <;>
    omega

/-- The regions that take a write and keep nothing are ROM, the placeholders and the unused range. -/
theorem keepsNothing_regionOf_iff {a : Word} :
    keepsNothing (regionOf a) ↔ a.toNat ≤ 0x9FFF ∨ (0xFE00 ≤ a.toNat ∧ a.toNat ≤ 0xFF7F) := by
  have hline := regionOf_table a
  unfold keepsNothing
  cases hr : regionOf a <;>
    simp only [hr, reduceCtorEq, and_true, and_false, false_or, or_false, or_true, true_iff,
      false_iff] at hline ⊢ <;>
    omega

/-! ### The cell behind an address (R45) -/

theorem cellOf_of_not_echo {a : Word} (h : a.toNat < 0xE000 ∨ 0xFDFF < a.toNat) : cellOf a = a :=
  if_neg (mt regionOf_eq_echoRam_iff.mp (by omega))

/-- An address whose cell is `a` shows the byte at `a`. -/
theorem shows_of_cellOf_eq {a x : Word} (h : cellOf x = a) : shows a x := by
  unfold cellOf at h
  split at h
  case isTrue hecho =>
    obtain ⟨hlow, hhigh⟩ := regionOf_eq_echoRam_iff.mp hecho
    refine .inr ⟨hlow, hhigh, ?_⟩
    rw [← h, echoTarget_toNat (by omega)]
    omega
  case isFalse => exact .inl h

/-- A read sees of the stored bytes the one in the address's cell only. -/
theorem busRead_congr_cell {s t : State} {a : Word} (ho : t.overlayEnabled = s.overlayEnabled)
    (hb : t.boot = s.boot)
    (hm : Memory.read t.mem (cellOf a).toNat = Memory.read s.mem (cellOf a).toNat) :
    busRead t a = busRead s a := by
  have hov : overlayAt t a = overlayAt s a := by simp only [overlayAt, ho, hb]
  unfold busRead
  rw [hov]
  cases overlayAt s a with
  | some image => rfl
  | none =>
    unfold cellOf at hm
    cases hr : regionOf a <;> simp_all

/-! ### Reads, by the address's range (R43 to R46) -/

/-- The overlay image is read where it shadows (R44). -/
theorem busRead_shadowed {s : State} {a : Word} {image : Memory} (ho : s.overlayEnabled = true)
    (hb : s.boot = some image) (ha : a.toNat ≤ 0x00FF) : busRead s a = Memory.read image a.toNat := by
  have hov : overlayAt s a = some image := (if_pos ⟨ho, ha⟩).trans hb
  simp only [busRead, hov]

/-- ROM and RAM read as stored where no overlay shadows them. -/
theorem busRead_stored {s : State} {a : Word} (hov : overlayAt s a = none)
    (ha : a.toNat ≤ 0x7FFF ∨ isRam a) : busRead s a = Memory.read s.mem a.toNat := by
  have hr := isStored_regionOf_iff.mpr ha
  unfold busRead
  rw [hov]
  cases h : regionOf a <;> simp_all [isStored]

/-- RAM reads as stored, since no overlay reaches it. -/
theorem busRead_ram {a : Word} (ha : isRam a) (s : State) : busRead s a = Memory.read s.mem a.toNat :=
  busRead_stored (overlayAt_high s (by omega)) (.inr ha)

/-- Echo RAM reads the byte 0x2000 below (R45). -/
theorem busRead_echo {a : Word} (hlow : 0xE000 ≤ a.toNat) (hhigh : a.toNat ≤ 0xFDFF) (s : State) :
    busRead s a = Memory.read s.mem (a.toNat - 0x2000) := by
  have hr := regionOf_eq_echoRam_iff.mpr ⟨hlow, hhigh⟩
  simp only [busRead, overlayAt_high s (show 0x00FF < a.toNat by omega), hr,
    echoTarget_toNat (show 0x2000 ≤ a.toNat by omega)]

/-- Where there is no storage, a read returns zero (R46, R61). -/
theorem busRead_unstored {a : Word}
    (ha : (0x8000 ≤ a.toNat ∧ a.toNat ≤ 0x9FFF) ∨ (0xFE00 ≤ a.toNat ∧ a.toNat ≤ 0xFF7F) ∨ a.toNat = 0xFFFF)
    (s : State) : busRead s a = 0x00#8 := by
  have hstored : ¬ isStored (regionOf a) = true := mt isStored_regionOf_iff.mp (by omega)
  have hecho : ¬ regionOf a = .echoRam := mt regionOf_eq_echoRam_iff.mp (by omega)
  unfold busRead
  rw [overlayAt_high s (by omega)]
  cases h : regionOf a <;> simp_all [isStored, Params.collabReadValue]

/-- Settles O19: each line of the map is one of the read equations. -/
theorem busReadFollowsTheMap : Obligations.BusReadFollowsTheMap := by
  refine fun s a => ⟨fun image ho hb ha => busRead_shadowed ho hb ha, fun h => ?_⟩
  have hov : overlayAt s a = none := h.elim (overlayAt_disabled · a) (overlayAt_high s)
  split_ifs
  · exact busRead_stored hov (by omega)
  · exact busRead_unstored (by omega) s
  · exact busRead_stored hov (by omega)
  · exact busRead_stored hov (by omega)
  · exact busRead_echo (by omega) (by omega) s
  · exact busRead_unstored (by omega) s
  · exact busRead_unstored (by omega) s
  · exact busRead_unstored (by omega) s
  · exact busRead_stored hov (by omega)
  · exact busRead_unstored (by have := a.isLt; omega) s

/-- Settles O58: with the overlay off, nothing shadows ROM bank 0. -/
theorem disableOverlayUncoversRom : Obligations.DisableOverlayUncoversRom :=
  fun _ => ⟨rfl, rfl, fun a ha => busRead_stored (overlayAt_disabled rfl a) (.inl (by omega))⟩

/-- Settles O20: an enabled overlay is read up to 0x00FF, and nothing shadows what lies above. -/
theorem overlayHasPriorityOverRom : Obligations.OverlayHasPriorityOverRom := by
  intro s image a hb ho
  refine ⟨fun ha => ⟨busRead_shadowed ho hb ha, ?_⟩, fun ha => ?_, rfl⟩
  · exact busRead_stored (overlayAt_disabled rfl a) (.inl (by omega))
  · have hoff := overlayAt_high { s with overlayEnabled := false } (a := a) (by omega)
    have hon := overlayAt_high s (a := a) (by omega)
    simp only [busRead, hoff, hon]

/-! ### Writes, by the address's range (R50 to R54) -/

/-- A write to ROM, a placeholder or the unused range keeps nothing (R52, R61, R62). -/
theorem busWriteUnder_keepsNothing {a : Word}
    (ha : a.toNat ≤ 0x9FFF ∨ (0xFE00 ≤ a.toNat ∧ a.toNat ≤ 0xFF7F))
    (policy : EchoWritePolicy) (v : Byte) (s : State) : busWriteUnder policy a v s = .ok s := by
  obtain h | h | h | h | h | h := keepsNothing_regionOf_iff.mpr ha <;> simp only [busWriteUnder, h]

/-- A write to RAM stores the byte (R51). -/
theorem busWriteUnder_ram {a : Word} (ha : isRam a) (policy : EchoWritePolicy) (v : Byte) (s : State) :
    busWriteUnder policy a v s = .ok (storeByte a v s) := by
  obtain h | h | h := writable_regionOf_iff.mpr ha <;> simp only [busWriteUnder, h]

/-- A write to Echo RAM is the policy's (R54). -/
theorem busWriteUnder_echo {a : Word} (hlow : 0xE000 ≤ a.toNat) (hhigh : a.toNat ≤ 0xFDFF)
    (policy : EchoWritePolicy) (v : Byte) (s : State) :
    busWriteUnder policy a v s = echoWrite policy a v s := by
  simp only [busWriteUnder, regionOf_eq_echoRam_iff.mpr ⟨hlow, hhigh⟩]

/-- Settles O22: there is no storage at these addresses, and the unused range keeps no write. -/
theorem placeholdersAndUnusedRangeReadZero : Obligations.PlaceholdersAndUnusedRangeReadZero := by
  refine fun s a v => ⟨fun h => busRead_unstored ?_ s, fun h => ⟨busRead_unstored (by omega) s, ?_⟩⟩
  · obtain h | h | h | rfl := h
    · exact .inl h
    · exact .inr (.inl (by omega))
    · exact .inr (.inl (by omega))
    · exact .inr (.inr rfl)
  · exact busWriteUnder_keepsNothing (by omega) _ v s

/-- Settles O23: each line of the map is one of the write equations, and 0xFFFF the address left over. -/
theorem busWriteFollowsTheMap : Obligations.BusWriteFollowsTheMap := by
  intro policy a v s
  split_ifs with _ _ _ _ _ _ _ _ htop
  · exact busWriteUnder_keepsNothing (by omega) policy v s
  · exact busWriteUnder_keepsNothing (by omega) policy v s
  · exact busWriteUnder_ram (by omega) policy v s
  · exact busWriteUnder_ram (by omega) policy v s
  · exact busWriteUnder_echo (by omega) (by omega) policy v s
  · exact busWriteUnder_keepsNothing (by omega) policy v s
  · exact busWriteUnder_keepsNothing (by omega) policy v s
  · exact busWriteUnder_keepsNothing (by omega) policy v s
  · exact busWriteUnder_ram (by omega) policy v s
  · obtain rfl : a = 0xFFFF#16 := BitVec.eq_of_toNat_eq (show a.toNat = 0xFFFF by have := a.isLt; omega)
    rfl

/-- Settles O24: the write through lands 0x2000 below, and the policy in use is the first. -/
theorem echoWritePolicies : Obligations.EchoWritePolicies := by
  intro a v s hlow hhigh
  simp only [busWriteUnder_echo hlow hhigh]
  refine ⟨rfl, ?_, rfl, busWriteUnder_echo hlow hhigh _ v s⟩
  rw [← echoTarget_toNat (by omega)]
  rfl

/-! ### Reads after a write -/

/-- RAM reads back the byte stored. -/
theorem busRead_storeByte_same {s : State} (hm : Memory.wf s.mem) {a : Word} (ha : isRam a) (v : Byte) :
    busRead (storeByte a v s) a = v :=
  (busRead_ram ha _).trans (Memory.read_write_same hm a.toNat v)

/-- A store changes no read of another cell. -/
theorem busRead_storeByte_other {a x : Word} (h : cellOf x ≠ a) (v : Byte) (s : State) :
    busRead (storeByte a v s) x = busRead s x :=
  busRead_congr_cell rfl rfl (Memory.read_write_other a.toNat _ v (mt BitVec.eq_of_toNat_eq h))

/-- Echo RAM reads as its mirror (R45). -/
theorem busRead_echoTarget {a : Word} (hlow : 0xE000 ≤ a.toNat) (hhigh : a.toNat ≤ 0xFDFF) (s : State) :
    busRead s a = busRead s (echoTarget a) := by
  have hcell := echoTarget_toNat (a := a) (by omega)
  rw [busRead_echo hlow hhigh, busRead_ram (by omega), hcell]

/-- Settles O25: only the cell written changes, and no other address's write reaches it. -/
theorem writtenByteReadsBack : Obligations.WrittenByteReadsBack := by
  refine fun a ha => ⟨fun s v hm => ⟨storeByte a v s, busWriteUnder_ram ha _ v s,
    busRead_storeByte_same hm.1 ha v, fun x hx => ?_⟩, fun s t b w hba h => ?_⟩
  · exact busRead_storeByte_other (mt shows_of_cellOf_eq hx) v s
  · obtain rfl | ⟨-, rfl⟩ := busWrite_ok h
    · rfl
    · have hcell : cellOf a = a := cellOf_of_not_echo (by omega)
      exact busRead_storeByte_other (hcell.trans_ne hba.symm) w s

/-- Settles O21: the mirror is internal RAM, where a write reads back. -/
theorem echoRamReadsItsMirror : Obligations.EchoRamReadsItsMirror := by
  intro s a hm hlow hhigh
  have hmirror (t : State) : busRead t a = busRead t (echoTarget a) := busRead_echoTarget hlow hhigh t
  have hram : isRam (echoTarget a) := by
    have := echoTarget_toNat (a := a) (by omega)
    omega
  refine ⟨hmirror s, fun v => ⟨storeByte (echoTarget a) v s, busWriteUnder_ram hram _ v s, ?_⟩⟩
  exact (hmirror _).trans (busRead_storeByte_same hm.1 hram v)

/-! ### Canonical stores (R41) -/

theorem Memory.read_cons_same (k : Nat) (v : Byte) (m : Memory) : Memory.read ((k, v) :: m) k = v :=
  if_pos rfl

theorem Memory.read_cons_other {k j : Nat} (h : j ≠ k) (v : Byte) (m : Memory) :
    Memory.read ((k, v) :: m) j = Memory.read m j :=
  if_neg h

/-- A canonical list's first entry is its lowest key. -/
theorem Memory.head_lt {k : Nat} {v : Byte} {m : Memory} (h : Memory.wf ((k, v) :: m)) :
    ∀ x ∈ m, k < x.1 :=
  (List.pairwise_cons.mp h.1).1

/-- A canonical list's first key reads as listed. -/
theorem Memory.read_head_ne {k : Nat} {v : Byte} {m : Memory} (h : Memory.wf ((k, v) :: m)) :
    Memory.read ((k, v) :: m) k ≠ Params.unlistedByte :=
  (Memory.read_cons_same k v m).trans_ne (h.2 (k, v) List.mem_cons_self)

/-- A listed key of a canonical list is at or above its first key. -/
theorem Memory.head_le_of_read_ne {k j : Nat} {v : Byte} {m : Memory} (h : Memory.wf ((k, v) :: m))
    (hj : Memory.read ((k, v) :: m) j ≠ Params.unlistedByte) : k ≤ j := by
  by_contra hlt
  refine hj (Memory.read_below fun x hx => ?_)
  obtain rfl | hx := List.mem_cons.mp hx
  · exact Nat.lt_of_not_le hlt
  · exact (Nat.lt_of_not_le hlt).trans (Memory.head_lt h x hx)

/-- Canonical stores that read alike agree in their first entry, and their tails read alike. -/
theorem Memory.cons_eq_of_read_eq {k j : Nat} {v w : Byte} {m n : Memory} (hm : Memory.wf ((k, v) :: m))
    (hn : Memory.wf ((j, w) :: n))
    (h : ∀ i, Memory.read ((k, v) :: m) i = Memory.read ((j, w) :: n) i) :
    k = j ∧ v = w ∧ ∀ i, Memory.read m i = Memory.read n i := by
  have hjk : j ≤ k := Memory.head_le_of_read_ne hn (h k ▸ Memory.read_head_ne hm)
  have hkj : k ≤ j := Memory.head_le_of_read_ne hm (h j ▸ Memory.read_head_ne hn)
  obtain rfl := Nat.le_antisymm hkj hjk
  have hvw : v = w := by simpa only [Memory.read_cons_same] using h k
  refine ⟨rfl, hvw, fun i => ?_⟩
  by_cases hi : i = k
  · rw [hi, Memory.read_below (Memory.head_lt hm), Memory.read_below (Memory.head_lt hn)]
  · simpa only [Memory.read_cons_other hi] using h i

/-- Settles O26, by induction on the first list: the first entries agree and so do the tails. -/
theorem canonicalStoresThatReadAlikeAreEqual : Obligations.CanonicalStoresThatReadAlikeAreEqual := by
  intro m
  induction m with
  | nil =>
    rintro (_ | ⟨⟨j, w⟩, n⟩) - hn h
    · rfl
    · exact absurd (h j).symm (Memory.read_head_ne hn)
  | cons x m ih =>
    obtain ⟨k, v⟩ := x
    rintro (_ | ⟨⟨j, w⟩, n⟩) hm hn h
    · exact absurd (h k) (Memory.read_head_ne hm)
    · obtain ⟨rfl, rfl, htail⟩ := Memory.cons_eq_of_read_eq hm hn h
      rw [ih n (Memory.wf_tail hm) (Memory.wf_tail hn) htail]

/-! ### Instructions that store, and the images over a step -/

/-- A store to an address that shuts writes out halts the core and changes nothing else (R224, D14). -/
theorem exec_store_halts {i : Instr} {s : State} {a : Word} (ha : storeAddress i s = some a)
    (hr : regionOf a = .echoRam ∨ regionOf a = .interruptEnable) :
    exec i s = .next (raise (.unmappedWrite a (storeValue i s)) s) := by
  rcases exec_cases i s with ⟨h, -⟩ | ⟨b, -, hb, hk, -⟩ | ⟨b, -, hb, hw, -⟩ | ⟨b, hb, -, he⟩
  · rw [ha] at h
    cases h
  · obtain rfl := Option.some.inj (ha.symm.trans hb)
    obtain hr | hr := hr <;> simp [hr, keepsNothing] at hk
  · obtain rfl := Option.some.inj (ha.symm.trans hb)
    obtain hr | hr := hr <;> simp [hr, writable] at hw
  · obtain rfl := Option.some.inj (ha.symm.trans hb)
    exact he

/-- Settles O45: 0xFFFF is the interrupt-enable register's region. -/
theorem storeToInterruptEnableHalts : Obligations.StoreToInterruptEnableHalts :=
  ⟨fun _ _ => rfl, fun _ _ ha => exec_store_halts ha (.inr rfl)⟩

/-- Settles O46: the range is Echo RAM's. -/
theorem storeToEchoRamHalts : Obligations.StoreToEchoRamHalts :=
  fun _ _ _ ha hlow hhigh => exec_store_halts ha (.inl (regionOf_eq_echoRam_iff.mpr ⟨hlow, hhigh⟩))

/-- The images are as they were: the overlay, its bit, and the stored bytes of ROM (R49). -/
structure SameImages (s t : State) : Prop where
  boot : t.boot = s.boot
  overlay : t.overlayEnabled = s.overlayEnabled
  rom : ∀ k, k ≤ 0x7FFF → Memory.read t.mem k = Memory.read s.mem k

/-- So ROM and what shadows it read as they did. -/
theorem SameImages.busRead_eq {s t : State} (h : SameImages s t) {a : Word} (ha : a.toNat ≤ 0x7FFF) :
    busRead t a = busRead s a := by
  refine busRead_congr_cell h.overlay h.boot ?_
  rw [cellOf_of_not_echo (by omega)]
  exact h.rom _ ha

/-- Halting the core leaves the images. -/
theorem SameImages.raise (cond : Condition) (s : State) : SameImages s (raise cond s) :=
  ⟨rfl, rfl, fun _ _ => rfl⟩

/-- An instruction that completes leaves the images, if it leaves the stored bytes of ROM. -/
theorem SameImages.of_completes {i : Instr} {s t : State} (hc : Completes i s t)
    (hm : ∀ k, k ≤ 0x7FFF → Memory.read t.mem k = Memory.read s.mem k) : SameImages s t :=
  ⟨hc.boot, hc.overlay, hm⟩

/-- No instruction changes an image: what it stores lies in RAM. -/
theorem exec_sameImages {i : Instr} {s t : State} (h : exec i s = .next t) : SameImages s t := by
  rcases exec_cases i s with ⟨-, u, hu, hm, hc⟩ | ⟨a, u, -, -, hu, hm, -, -, hc⟩ |
      ⟨a, u, -, hw, hu, hm, -, -, hc⟩ | ⟨a, -, -, hu⟩ <;>
    obtain rfl := Host.Outcome.next.inj (h.symm.trans hu)
  · exact .of_completes hc fun k _ => by rw [hm]
  · exact .of_completes hc fun k _ => by rw [hm]
  · have hram := writable_regionOf_iff.mp hw
    exact .of_completes hc fun k hk => by rw [hm, Memory.read_write_other _ _ _ (by omega)]
  · exact .raise _ s

/-- Nor does a step. -/
theorem step_sameImages {s t : State} (h : step s = .next t) : SameImages s t := by
  rcases step_cases s with ⟨-, hu⟩ | ⟨-, e, -, hu⟩ | ⟨-, i, -, hu⟩
  · obtain rfl := Host.Outcome.next.inj (h.symm.trans hu)
    exact ⟨rfl, rfl, fun _ _ => rfl⟩
  · obtain rfl := Host.Outcome.next.inj (h.symm.trans hu)
    exact .raise _ s
  · exact exec_sameImages (hu ▸ h)

/-- Settles O51: a step leaves the images, and so the reads below 0x8000. -/
theorem noStepChangesAnImage : Obligations.NoStepChangesAnImage := by
  intro s t h
  have himages := step_sameImages h
  exact ⟨himages.boot, himages.overlay, fun _ ha => himages.busRead_eq ha, himages.rom⟩

end Sys2Proof.Machine

/-! ## The decode tables, and decode and encode as inverses (O1 to O6) -/

namespace Sys2Proof

/-! ### Opcode bytes and their fields (R81) -/

/-- The opcode byte with the fields `x`, `y` and `z` (R81). -/
def ofFields (x y z : Nat) : Byte :=
  BitVec.ofNat 8 (64 * x + 8 * y + z)

theorem ofFields_toNat {x y z : Nat} (hx : x < 4) (hy : y < 8) (hz : z < 8) :
    (ofFields x y z).toNat = 64 * x + 8 * y + z := by
  rw [ofFields, BitVec.toNat_ofNat]
  omega

@[simp] theorem fieldX_ofFields {x y z : Nat} (hx : x < 4) (hy : y < 8) (hz : z < 8) :
    fieldX (ofFields x y z) = x := by
  rw [fieldX, ofFields_toNat hx hy hz]
  omega

@[simp] theorem fieldY_ofFields {x y z : Nat} (hx : x < 4) (hy : y < 8) (hz : z < 8) :
    fieldY (ofFields x y z) = y := by
  rw [fieldY, ofFields_toNat hx hy hz]
  omega

@[simp] theorem fieldZ_ofFields {x y z : Nat} (hx : x < 4) (hy : y < 8) (hz : z < 8) :
    fieldZ (ofFields x y z) = z := by
  rw [fieldZ, ofFields_toNat hx hy hz]
  omega

/-- A byte is its three fields. -/
theorem ofFields_fields (b : Byte) : ofFields (fieldX b) (fieldY b) (fieldZ b) = b := by
  apply BitVec.eq_of_toNat_eq
  rw [ofFields, BitVec.toNat_ofNat, fieldX, fieldY, fieldZ]
  omega

theorem fieldY_lt (b : Byte) : fieldY b < 8 := Nat.mod_lt _ (by decide)

theorem fieldZ_lt (b : Byte) : fieldZ b < 8 := Nat.mod_lt _ (by decide)

theorem fieldP_lt (b : Byte) : fieldP b < 4 := Nat.mod_lt _ (by decide)

/-- `p` and `q` split `y` (R81). -/
theorem fieldY_eq (b : Byte) : fieldY b = 2 * fieldP b + fieldQ b := by
  unfold fieldY fieldP fieldQ
  omega

/-! ### The code tables, both ways (R83 to R85) -/

/-- The code of an operation (R85). -/
def aluCode : AluOp → Nat
  | .add => 0
  | .adc => 1
  | .sub => 2
  | .sbc => 3
  | .and => 4
  | .xor => 5
  | .or => 6
  | .cp => 7

/-- The code of a pair (R84). -/
def pairCode : Pair16 → Nat
  | .BC => 0
  | .DE => 1
  | .HL => 2
  | .SP => 3

theorem operandCode_lt (o : Operand8) : operandCode o < 8 := by
  cases o with
  | hli => decide
  | reg r => cases r <;> decide

theorem aluCode_lt (op : AluOp) : aluCode op < 8 := by
  cases op <;> decide

@[simp] theorem operandOf_operandCode (o : Operand8) : operandOf (operandCode o) = o := by
  cases o with
  | hli => rfl
  | reg r => cases r <;> rfl

@[simp] theorem aluOf_aluCode (op : AluOp) : aluOf (aluCode op) = op := by
  cases op <;> rfl

theorem operandCode_operandOf {n : Nat} (h : n < 8) : operandCode (operandOf n) = n := by
  interval_cases n <;> rfl

theorem aluCode_aluOf {n : Nat} (h : n < 8) : aluCode (aluOf n) = n := by
  interval_cases n <;> rfl

theorem pairCode_pairOf {n : Nat} (h : n < 4) : pairCode (pairOf n) = n := by
  interval_cases n <;> rfl

/-! ### The entry of an instruction value in the two tables (R88, R89) -/

/-- The byte a value is looked up by: its only opcode byte, or the one after 0xCB (R88, R89). -/
def Value.opcode : Value → Byte
  | .alu op s => ofFields 2 (aluCode op) (operandCode s)
  | .ldByte t (.operand s) => ofFields 1 (operandCode t) (operandCode s)
  | .ldByte t .d8 => ofFields 0 (operandCode t) 6
  | .ldWord rr => ofFields 0 (2 * pairCode rr) 1
  | .stA .bci => 0x02#8
  | .stA .dei => 0x12#8
  | .stA .hliInc => 0x22#8
  | .stA .hld => 0x32#8
  | .stA .a16 => 0xEA#8
  | .stA .highC => 0xE2#8
  | .bit index s => ofFields 1 index (operandCode s)

/-- Whether a value stands in the second table (R91). -/
def Value.isPrefixed : Value → Bool
  | .bit _ _ => true
  | _ => false

/-- The opcode of a well-formed value is its entry. -/
theorem decodeByte_opcode {v : Value} (h : v.wellFormed = true) :
    decodeByte v.opcode v.isPrefixed = some v := by
  cases v with
  | alu op s =>
    have hy := aluCode_lt op
    have hz := operandCode_lt s
    simp [Value.opcode, Value.isPrefixed, decodeByte, hy, hz]
  | ldByte t src =>
    have hy := operandCode_lt t
    cases src with
    | operand s =>
      have hz := operandCode_lt s
      have hne : ¬(operandCode t = 6 ∧ operandCode s = 6) := by
        rintro ⟨ht, hs⟩
        rw [← operandOf_operandCode t, ← operandOf_operandCode s, ht, hs] at h
        cases h
      simp [Value.opcode, Value.isPrefixed, decodeByte, hy, hz, hne]
    | d8 =>
      simp [Value.opcode, Value.isPrefixed, decodeByte, hy]
  | ldWord rr => cases rr <;> rfl
  | stA dest => cases dest <;> rfl
  | bit index s =>
    have hy : index < 8 := by simpa [Value.wellFormed] using h
    have hz := operandCode_lt s
    simp [Value.opcode, Value.isPrefixed, decodeByte, hy, hz]

/-- The store form of a 2-bit code has the fields of its row (R81). -/
theorem opcode_storeDestOf {n : Nat} (h : n < 4) :
    (Value.stA (storeDestOf n)).opcode = ofFields 0 (2 * n) 2 := by
  interval_cases n <;> rfl

/-- An entry is found by its value's opcode and in its value's table: no two bytes share a value. -/
theorem opcode_of_decodeByte {b : Byte} {prefixed : Bool} {v : Value} (h : decodeByte b prefixed = some v) :
    v.opcode = b ∧ v.isPrefixed = prefixed := by
  have hfields := ofFields_fields b
  have hy := fieldY_lt b
  have hz := operandCode_operandOf (fieldZ_lt b)
  have hy' := operandCode_operandOf hy
  have hp := fieldP_lt b
  have hyp := fieldY_eq b
  cases prefixed with
  | true =>
    rw [decodeByte, if_pos rfl] at h
    split_ifs at h with hx
    obtain rfl := Option.some.inj h
    exact ⟨by rw [Value.opcode, hz, ← hx, hfields], rfl⟩
  | false =>
    rw [decodeByte, if_neg Bool.false_ne_true] at h
    split_ifs at h with halu hld hnone hd8 hword hst ha16 hhigh <;>
      obtain rfl := Option.some.inj h
    · exact ⟨by rw [Value.opcode, aluCode_aluOf hy, hz, ← halu, hfields], rfl⟩
    · exact ⟨by rw [Value.opcode, hy', hz, ← hld, hfields], rfl⟩
    · obtain ⟨hx, hz6⟩ := hd8
      exact ⟨by rw [Value.opcode, hy', ← hz6, ← hx, hfields], rfl⟩
    · obtain ⟨hx, hz1, hq⟩ := hword
      rw [hq, Nat.add_zero] at hyp
      exact ⟨by rw [Value.opcode, pairCode_pairOf hp, ← hyp, ← hz1, ← hx, hfields], rfl⟩
    · obtain ⟨hx, hz2, hq⟩ := hst
      rw [hq, Nat.add_zero] at hyp
      exact ⟨by rw [opcode_storeDestOf hp, ← hyp, ← hz2, ← hx, hfields], rfl⟩
    · exact ⟨ha16.symm, rfl⟩
    · exact ⟨hhigh.symm, rfl⟩

/-- 0xCB has no entry in either table (R91). -/
theorem decodeByte_prefixByte (prefixed : Bool) : decodeByte prefixByte prefixed = none := by
  cases prefixed <;> rfl

/-- The second table is assigned where field `x` is 1 (R89). -/
theorem decodeByte_true_ne_none_iff (b : Byte) : decodeByte b true ≠ none ↔ fieldX b = 1 := by
  simp [decodeByte]

/-- The first table, checked at each of its bytes (R88). -/
theorem decodeByte_false_ne_none_iff : ∀ b : Byte, decodeByte b false ≠ none ↔
    (0x40 ≤ b.toNat ∧ b.toNat ≤ 0xBF ∧ b ≠ 0x76#8) ∨
    b ∈ [0x01#8, 0x11#8, 0x21#8, 0x31#8, 0x02#8, 0x12#8, 0x22#8, 0x32#8, 0xE2#8, 0xEA#8,
      0x06#8, 0x0E#8, 0x16#8, 0x1E#8, 0x26#8, 0x2E#8, 0x36#8, 0x3E#8] := by
  decide

/-- Settles O4: the first table byte by byte, the second by its field. -/
theorem assignedBytesAreExactlyTheMap : Obligations.AssignedBytesAreExactlyTheMap := by
  intro b
  refine ⟨decodeByte_false_ne_none_iff b, (decodeByte_true_ne_none_iff b).trans ?_⟩
  rw [fieldX]
  omega

/-! ### The bytes after the opcode (R80, R86, R87) -/

/-- The bytes a format has after its opcode, when `d0` and `d1` follow it; LD (C),A is given the pad byte. -/
def Format.operandBytes (f : Format) (d0 d1 : Byte) : List Byte :=
  match f with
  | .op => []
  | .opD8 => [d0]
  | .opD16 => [d0, d1]
  | .opPad => [padByte]
  | .cbOp => []

/-- A value that has an instruction is well-formed. -/
theorem wellFormed_of_ofValue {v : Value} {d0 d1 : Byte} {i : Instr}
    (h : Instr.ofValue? v d0 d1 = some i) : v.wellFormed = true := by
  unfold Value.wellFormed
  split
  · cases h
  · rw [Instr.ofValue?] at h
    split_ifs at h with hindex
    exact decide_eq_true hindex
  · rfl

/-- A value's instruction depends on the bytes its format has, and on no other. -/
theorem ofValue_congr {v : Value} {d0 d1 e0 e1 : Byte}
    (h : v.format.operandBytes d0 d1 = v.format.operandBytes e0 e1) :
    Instr.ofValue? v d0 d1 = Instr.ofValue? v e0 e1 := by
  cases v with
  | alu op s => rfl
  | ldByte t src =>
    cases src with
    | operand s => cases t <;> cases s <;> rfl
    | d8 =>
      obtain rfl : d0 = e0 := List.singleton_inj.mp h
      cases t <;> rfl
  | ldWord rr =>
    obtain ⟨rfl, rfl⟩ : d0 = e0 ∧ d1 = e1 := by simpa [Value.format, Format.operandBytes] using h
    rfl
  | stA dest =>
    cases dest with
    | a16 =>
      obtain ⟨rfl, rfl⟩ : d0 = e0 ∧ d1 = e1 := by simpa [Value.format, Format.operandBytes] using h
      rfl
    | _ => rfl
  | bit index s => rfl

/-- Every instruction is its value's, with two bytes after the opcode. -/
theorem exists_ofValue (i : Instr) : ∃ d0 d1, Instr.ofValue? i.value d0 d1 = some i := by
  induction i using Laws.instr_forms with
  | alu op s => exact ⟨0#8, 0#8, by rw [value_ofAlu, Instr.ofValue?]⟩
  | ldRR t s => exact ⟨0#8, 0#8, by rw [value_ofLdRR, Instr.ofValue?]⟩
  | ldRHL t => exact ⟨0#8, 0#8, by rw [value_ofLdRHL, Instr.ofValue?]⟩
  | ldHLR s => exact ⟨0#8, 0#8, by rw [value_ofLdHLR, Instr.ofValue?]⟩
  | ldRD8 t imm => exact ⟨imm, 0#8, by rw [value_ofLdRD8, Instr.ofValue?]⟩
  | ldHLD8 imm => exact ⟨imm, 0#8, rfl⟩
  | ldWord rr imm =>
    exact ⟨loByte imm, hiByte imm, by rw [value_ofLdWord, Instr.ofValue?, join_halves]⟩
  | stA dest imm =>
    exact ⟨loByte imm, hiByte imm, by rw [value_ofStA, Instr.ofValue?, join_halves]⟩
  | bit index s => exact ⟨0#8, 0#8, by rw [value_ofBit, Instr.ofValue?, dif_pos index.isLt]⟩

/-! ### The encoder by forms -/

theorem encode_ofAlu (op : AluOp) (s : Operand8) : encode (.ofAlu op s) = [(Value.alu op s).opcode] := by
  cases op <;> (cases s with | hli => rfl | reg r => cases r <;> rfl)

theorem encode_ofLdRR (t s : Reg8) :
    encode (.ofLdRR t s) = [(Value.ldByte (.reg t) (.operand (.reg s))).opcode] := by
  cases t <;> cases s <;> rfl

theorem encode_ofLdRHL (t : Reg8) :
    encode (.ofLdRHL t) = [(Value.ldByte (.reg t) (.operand .hli)).opcode] := by
  cases t <;> rfl

theorem encode_ofLdHLR (s : Reg8) :
    encode (.ofLdHLR s) = [(Value.ldByte .hli (.operand (.reg s))).opcode] := by
  cases s <;> rfl

theorem encode_ofLdRD8 (t : Reg8) (imm : Byte) :
    encode (.ofLdRD8 t imm) = [(Value.ldByte (.reg t) .d8).opcode, imm] := by
  cases t <;> rfl

theorem encode_ofLdWord (rr : Pair16) (imm : Word) :
    encode (.ofLdWord rr imm) = [(Value.ldWord rr).opcode, loByte imm, hiByte imm] := by
  cases rr <;> rfl

theorem encode_ofStA (dest : StoreDest) (imm : Word) :
    encode (.ofStA dest imm) =
      (Value.stA dest).opcode :: (Value.stA dest).format.operandBytes (loByte imm) (hiByte imm) := by
  cases dest <;> rfl

theorem encode_ofBit (index : Fin 8) (s : Operand8) :
    encode (.ofBit index s) = [prefixByte, (Value.bit index.val s).opcode] := by
  fin_cases index <;> (cases s with | hli => rfl | reg r => cases r <;> rfl)

/-- The opcode bytes of a value: its entry, after 0xCB if that is in the second table. -/
def Value.opcodeBytes (v : Value) : List Byte :=
  if v.isPrefixed then [prefixByte, v.opcode] else [v.opcode]

/-- The encoder writes a value's opcode bytes and the bytes its format has after them (R80). -/
theorem encode_of_ofValue {v : Value} {d0 d1 : Byte} {i : Instr} (h : Instr.ofValue? v d0 d1 = some i) :
    encode i = v.opcodeBytes ++ v.format.operandBytes d0 d1 := by
  cases v with
  | alu op s =>
    cases h
    exact encode_ofAlu op s
  | ldByte t src =>
    cases t with
    | hli =>
      cases src with
      | operand s =>
        cases s with
        | hli => cases h
        | reg r =>
          cases h
          exact encode_ofLdHLR r
      | d8 =>
        cases h
        rfl
    | reg t =>
      cases src with
      | operand s =>
        cases s with
        | hli =>
          cases h
          exact encode_ofLdRHL t
        | reg r =>
          cases h
          exact encode_ofLdRR t r
      | d8 =>
        cases h
        exact encode_ofLdRD8 t d0
  | ldWord rr =>
    cases h
    rw [encode_ofLdWord, loByte_join, hiByte_join]
    rfl
  | stA dest =>
    cases h
    rw [encode_ofStA, loByte_join, hiByte_join]
    rfl
  | bit index s =>
    have hindex : index < 8 := by simpa [Value.wellFormed] using wellFormed_of_ofValue h
    rw [Instr.ofValue?, dif_pos hindex] at h
    cases h
    exact encode_ofBit ⟨index, hindex⟩ s

/-- The length of a form is that of its opcode bytes and of the bytes after them. -/
theorem length_opcodeBytes_operandBytes (v : Value) (d0 d1 : Byte) :
    (v.opcodeBytes ++ v.format.operandBytes d0 d1).length = v.format.length := by
  cases v with
  | ldByte t src => cases src <;> rfl
  | stA dest => cases dest <;> rfl
  | _ => rfl

/-- An encoding is as long as its format says (R80). -/
theorem length_encode (i : Instr) : (encode i).length = i.length := by
  obtain ⟨d0, d1, h⟩ := exists_ofValue i
  rw [encode_of_ofValue h, length_opcodeBytes_operandBytes, Instr.length]

/-! ### One lookup -/

/-- A byte without an entry fails, and the failure carries it (R112, D25). -/
theorem lookup_none {b : Byte} {prefixed : Bool} (h : decodeByte b prefixed = none) (d0 d1 : Byte) :
    lookup b prefixed d0 d1 = .error ⟨b, prefixed⟩ := by
  rw [lookup, h]
  rfl

/-- An entry of the table gives the instruction of its value and the bytes after it. -/
theorem lookup_of_ofValue {b : Byte} {prefixed : Bool} {v : Value} {d0 d1 : Byte} {i : Instr}
    (h : decodeByte b prefixed = some v) (hi : Instr.ofValue? v d0 d1 = some i) :
    lookup b prefixed d0 d1 = .ok i := by
  rw [lookup, h, Option.bind_some, hi]

/-- A byte with an entry has an instruction of the entry's value, whatever follows it. -/
theorem lookup_some {b : Byte} {prefixed : Bool} {v : Value} (h : decodeByte b prefixed = some v)
    (d0 d1 : Byte) :
    ∃ i, (lookup b prefixed d0 d1 = .ok i ∧ i.value = v) ∧ Instr.ofValue? v d0 d1 = some i := by
  have hwf := decodeByte_wellFormed b prefixed
  rw [h] at hwf
  obtain ⟨i, hi, hv⟩ := ofValue_some hwf d0 d1
  exact ⟨i, ⟨lookup_of_ofValue h hi, hv⟩, hi⟩

/-- A lookup that answers gives the instruction of the table's entry. -/
theorem lookup_ok {b : Byte} {prefixed : Bool} {d0 d1 : Byte} {i : Instr}
    (h : lookup b prefixed d0 d1 = .ok i) :
    decodeByte b prefixed = some i.value ∧ Instr.ofValue? i.value d0 d1 = some i := by
  cases hb : decodeByte b prefixed with
  | none => cases (lookup_none hb d0 d1).symm.trans h
  | some v =>
    obtain ⟨j, ⟨hj, rfl⟩, hi⟩ := lookup_some hb d0 d1
    obtain rfl := Except.ok.inj (hj.symm.trans h)
    exact ⟨rfl, hi⟩

/-- What a lookup gives is encoded as the byte looked up, after 0xCB in the second table, and its operands. -/
theorem encode_of_lookup {b : Byte} {prefixed : Bool} {d0 d1 : Byte} {i : Instr}
    (h : lookup b prefixed d0 d1 = .ok i) :
    encode i = (if prefixed then [prefixByte, b] else [b]) ++ i.value.format.operandBytes d0 d1 := by
  obtain ⟨hentry, hi⟩ := lookup_ok h
  obtain ⟨rfl, rfl⟩ := opcode_of_decodeByte hentry
  exact encode_of_ofValue hi

/-! ### A list of bytes -/

/-- The values of the second table are those of the prefixed format (R80, R89). -/
theorem isPrefixed_iff {v : Value} : v.isPrefixed = true ↔ v.format = .cbOp := by
  cases v with
  | ldByte t src => cases src <;> exact ⟨nofun, nofun⟩
  | stA dest => cases dest <;> exact ⟨nofun, nofun⟩
  | bit index s => exact ⟨fun _ => rfl, fun _ => rfl⟩
  | _ => exact ⟨nofun, nofun⟩

/-- No value's opcode is 0xCB, so the first byte tells the tables apart (R91). -/
theorem opcode_ne_prefixByte {v : Value} (h : v.wellFormed = true) : v.opcode ≠ prefixByte := by
  intro hb
  have hentry := decodeByte_opcode h
  rw [hb, decodeByte_prefixByte] at hentry
  cases hentry

/-- The format with a skipped byte is that of LD (C),A alone (R98). -/
theorem eq_highC_of_format {v : Value} (h : v.format = .opPad) : v = .stA .highC := by
  cases v with
  | ldByte t src => cases src <;> cases h
  | stA dest => cases dest with
    | highC => rfl
    | _ => cases h
  | _ => cases h

/-- The two bytes read after an opcode are those the format has, where it has them. -/
theorem operandBytes_window (f : Format) (d0 d1 : Byte) (rest : List Byte) :
    f.operandBytes ((f.operandBytes d0 d1 ++ rest).getD 0 0#8) ((f.operandBytes d0 d1 ++ rest).getD 1 0#8) =
      f.operandBytes d0 d1 := by
  cases f <;> rfl

/-- A long enough list begins with the bytes an unprefixed format has, unless one of them is skipped. -/
theorem operandBytes_append_drop {f : Format} (hcb : f ≠ .cbOp) (hpad : f ≠ .opPad) {bytes : List Byte}
    (hl : f.length ≤ bytes.length + 1) (b : Byte) :
    b :: bytes = [b] ++ f.operandBytes (bytes.getD 0 0#8) (bytes.getD 1 0#8) ++ (b :: bytes).drop f.length := by
  cases f with
  | op => rfl
  | opD8 =>
    cases bytes with
    | nil => exact absurd hl (by decide)
    | cons d0 bytes => rfl
  | opD16 =>
    cases bytes with
    | nil => exact absurd hl (by decide)
    | cons d0 bytes =>
      cases bytes with
      | nil => exact absurd hl (by simp [Format.length])
      | cons d1 bytes => rfl
  | opPad => exact absurd rfl hpad
  | cbOp => exact absurd rfl hcb

/-- An instruction of the first table and the bytes after its opcode, from its lookup. -/
theorem decode_unprefixed {b : Byte} {operands rest : List Byte} {i : Instr} (hb : b ≠ prefixByte)
    (h : lookup b false ((operands ++ rest).getD 0 0#8) ((operands ++ rest).getD 1 0#8) = .ok i)
    (hl : i.length = operands.length + 1) :
    decode (b :: (operands ++ rest)) = .ok (i, rest) := by
  simp [decode, decodeWindow, hb, h, hl, -List.getD_eq_getElem?_getD]

/-- A list that decodes begins with 0xCB and a byte of the second table, or with a byte of the
first and as many bytes more as its format has. -/
theorem decode_ok {bytes rest : List Byte} {i : Instr} (h : decode bytes = .ok (i, rest)) :
    rest = bytes.drop i.length ∧
    ((∃ b tail, bytes = prefixByte :: b :: tail ∧ lookup b true 0#8 0#8 = .ok i) ∨
     (∃ b tail, bytes = b :: tail ∧ lookup b false (tail.getD 0 0#8) (tail.getD 1 0#8) = .ok i ∧
      i.length ≤ tail.length + 1)) := by
  cases bytes with
  | nil => cases h
  | cons b tail =>
    rw [decode] at h
    split_ifs at h with hshort
    cases hw : decodeWindow b (tail.getD 0 0#8) (tail.getD 1 0#8) with
    | error e =>
      rw [hw] at h
      cases h
    | ok j =>
      simp only [hw] at h
      split_ifs at h with hl
      cases h
      refine ⟨rfl, ?_⟩
      unfold decodeWindow at hw
      split_ifs at hw with hb
      · cases tail with
        | nil => exact absurd ⟨hb, rfl⟩ hshort
        | cons b' tail => exact .inl ⟨b', tail, hb ▸ rfl, hw⟩
      · exact .inr ⟨b, tail, rfl, hw, hl⟩

/-- Settles O1: the opcode bytes find the value, and the bytes after them its immediate. -/
theorem encodeThenDecodeGivesInstruction : Obligations.EncodeThenDecodeGivesInstruction := by
  intro i rest
  obtain ⟨d0, d1, hi⟩ := exists_ofValue i
  have hwf := wellFormed_of_ofValue hi
  have hentry := decodeByte_opcode hwf
  have hlen := length_encode i
  have henc := encode_of_ofValue hi
  cases hp : i.value.isPrefixed with
  | true =>
    have hf := isPrefixed_iff.mp hp
    rw [hp] at hentry
    have hlookup : lookup i.value.opcode true 0#8 0#8 = .ok i :=
      lookup_of_ofValue hentry ((ofValue_congr (by rw [hf]; rfl)).trans hi)
    rw [Value.opcodeBytes, hp, if_pos rfl, hf] at henc
    rw [henc] at hlen ⊢
    exact decode_prefixed rest hlookup hlen.symm
  | false =>
    rw [hp] at hentry
    have hwindow := ofValue_congr (operandBytes_window i.value.format d0 d1 rest)
    rw [Value.opcodeBytes, hp, if_neg Bool.false_ne_true] at henc
    rw [henc] at hlen ⊢
    exact decode_unprefixed (opcode_ne_prefixByte hwf) (lookup_of_ofValue hentry (hwindow.trans hi))
      hlen.symm

/-- Settles O2: the opcode is its value's and the bytes after it are the format's, but for a skipped one. -/
theorem decodedBytesAreTheEncoding : Obligations.DecodedBytesAreTheEncoding := by
  intro bytes i rest h
  obtain ⟨rfl, ⟨b, tail, rfl, hlookup⟩ | ⟨b, tail, rfl, hlookup, hl⟩⟩ := decode_ok h <;>
    obtain ⟨hentry, hi⟩ := lookup_ok hlookup <;>
    obtain ⟨hb, hp⟩ := opcode_of_decodeByte hentry
  · have hf := isPrefixed_iff.mp hp
    rw [encode_of_lookup hlookup, Instr.length, hf]
    exact .inl rfl
  · by_cases hpad : i.value.format = .opPad
    · have hv := eq_highC_of_format hpad
      rw [hv] at hi hb
      obtain rfl : Instr.ldCIndA = i := Option.some.inj hi
      obtain rfl : 0xE2#8 = b := hb
      cases tail with
      | nil => exact absurd hl (by decide)
      | cons pad tail => exact .inr ⟨rfl, pad, rfl⟩
    · have hcb : i.value.format ≠ .cbOp := fun hf => by simp [isPrefixed_iff.mpr hf] at hp
      rw [encode_of_lookup hlookup]
      exact .inl (operandBytes_append_drop hcb hpad hl b)

/-- Settles O3: sixteen words are encodings. LD (C),A with another second byte and the unassigned
words are looked up. -/
theorem sampleWordsDecodeAsTheTableSays : Obligations.SampleWordsDecodeAsTheTableSays :=
  have encoded (i : Instr) : decode (encode i ++ []) = .ok (i, []) :=
    encodeThenDecodeGivesInstruction i []
  ⟨encoded .addAB, encoded .adcAHLInd, encoded .subA, encoded .sbcAE, encoded .andH, encoded .xorA,
    encoded .orC, encoded .cpHLInd, encoded .ldBHLInd, encoded .ldHLIndB, encoded (.ldHLIndD8 0x0F#8),
    encoded (.ldSPD16 0xFF00#16), encoded .ldHLDecA, encoded (.ldA16IndA 0xA000#16), rfl, encoded .bit7H,
    encoded .bit6HLInd, rfl, rfl⟩

end Sys2Proof

namespace Sys2Proof.Machine

/-! ### Fetch (R86, R87, R91) -/

/-- Two bytes joined are the word that R87 reads, the low byte first. -/
theorem join_eq_ofNat (hi lo : Byte) : join hi lo = BitVec.ofNat 16 (hi.toNat * 256 + lo.toNat) := by
  apply BitVec.eq_of_toNat_eq
  rw [join_toNat, BitVec.toNat_ofNat]
  omega

/-- 0xCB at PC sends the next byte to the second table (R91). -/
theorem fetchDecode_of_prefixByte {s : State} (h : busRead s s.pc = prefixByte) :
    fetchDecode s = lookup (busRead s (s.pc + 1#16)) true 0#8 0#8 :=
  if_pos h

/-- Any other byte at PC is looked up in the first, with the two bytes after it (R86, R87, R91). -/
theorem fetchDecode_of_ne_prefixByte {s : State} (h : busRead s s.pc ≠ prefixByte) :
    fetchDecode s =
      lookup (busRead s s.pc) false (busRead s (s.pc + 1#16)) (busRead s (s.pc + 2#16)) :=
  if_neg h

/-- Settles O5: the table's entry has an instruction of its value. -/
theorem prefixByteSelectsTheSecondTable : Obligations.PrefixByteSelectsTheSecondTable := by
  intro s
  refine ⟨fun h => ?_, fun h => ?_, decodeByte_prefixByte true⟩
  · rw [fetchDecode_of_prefixByte h]
    exact ⟨fun hnone => lookup_none hnone _ _, fun v hv => (lookup_some hv _ _).imp fun _ => And.left⟩
  · rw [fetchDecode_of_ne_prefixByte h]
    exact ⟨fun hnone => lookup_none hnone _ _, fun v hv => (lookup_some hv _ _).imp fun _ => And.left⟩

/-- An instruction of the first table is fetched with the two bytes after its opcode. -/
theorem fetchDecode_of_opcode {s : State} {v : Value} {i : Instr} (hb : busRead s s.pc = v.opcode)
    (hv : v.isPrefixed = false)
    (hi : Instr.ofValue? v (busRead s (s.pc + 1#16)) (busRead s (s.pc + 2#16)) = some i) :
    fetchDecode s = .ok i := by
  have hwf := wellFormed_of_ofValue hi
  have hentry := decodeByte_opcode hwf
  rw [hv] at hentry
  rw [fetchDecode_of_ne_prefixByte (hb.trans_ne (opcode_ne_prefixByte hwf)), hb]
  exact lookup_of_ofValue hentry hi

/-- Settles O6: each opcode is that of a form with an immediate. -/
theorem immediatesAreTheBytesAfterTheOpcode : Obligations.ImmediatesAreTheBytesAfterTheOpcode := by
  intro s lo hi imm16
  have himm : join hi lo = imm16 := join_eq_ofNat hi lo
  have hword (rr : Pair16) (h : busRead s s.pc = (Value.ldWord rr).opcode) :
      fetchDecode s = .ok (.ofLdWord rr imm16) :=
    fetchDecode_of_opcode h rfl (himm ▸ rfl)
  refine ⟨fun t h => ?_, fun h => ?_, hword .BC, hword .DE, hword .HL, hword .SP, fun h => ?_⟩
  · have hopcode : BitVec.ofNat 8 (0x06 + 8 * regCode t) = (Value.ldByte (.reg t) .d8).opcode := by
      cases t <;> rfl
    exact fetchDecode_of_opcode (h.trans hopcode) rfl rfl
  · exact fetchDecode_of_opcode (v := .ldByte .hli .d8) h rfl rfl
  · exact fetchDecode_of_opcode (v := .stA .a16) h rfl (himm ▸ rfl)

end Sys2Proof.Machine

/-! ## The step: what it runs, how it halts, and that it halts (O7, O9 to O11, O14, O59) -/

namespace Sys2Proof.Machine

/-! ### What a step runs, and where it halts -/

/-- Settles O7: the fetch is the decoder on the three bytes at PC. -/
theorem stepFetchesDecodesExecutes : Obligations.StepFetchesDecodesExecutes :=
  fun _ hr => ⟨fun _ hf => step_running hr hf, fun _ _ hf => step_illegal hr hf⟩

/-- Settles O11: there is no storage there, so the fetch reads 0x00, which has no entry. -/
theorem fetchFromPlaceholderIsIllegal : Obligations.FetchFromPlaceholderIsIllegal := by
  intro s hr hpc
  have hzero : busRead s s.pc = 0x00#8 :=
    busRead_unstored (hpc.imp_right (Or.imp_right (congrArg BitVec.toNat))) s
  have hfetch : fetchDecode s = .error ⟨0x00#8, false⟩ := by
    rw [fetchDecode_of_ne_prefixByte (by rw [hzero]; decide), hzero]
    exact lookup_none rfl _ _
  exact step_illegal hr hfetch

/-- An instruction completes, or all it does is raise a condition in the state it began in. -/
theorem exec_completes_or_raises {i : Instr} {s t : State} (h : exec i s = .next t) :
    Completes i s t ∨ ∃ cond, t = raise cond s := by
  rcases exec_cases i s with ⟨-, u, hu, -, hc⟩ | ⟨_, u, -, -, hu, -, -, -, hc⟩ |
      ⟨_, u, -, -, hu, -, -, -, hc⟩ | ⟨_, -, -, hu⟩ <;>
    obtain rfl := Host.Outcome.next.inj (h.symm.trans hu)
  · exact .inl hc
  · exact .inl hc
  · exact .inl hc
  · exact .inr ⟨_, rfl⟩

/-- A step that halts a running core does so by raising a condition in the state it began in. -/
theorem step_halts_by_raise {s t : State} (hr : s.run = .running) (h : step s = .next t)
    (ht : t.run ≠ .running) : ∃ cond, t = raise cond s := by
  rcases step_cases s with ⟨-, hu⟩ | ⟨-, e, -, hu⟩ | ⟨-, i, -, hu⟩
  · obtain rfl := Host.Outcome.next.inj (h.symm.trans hu)
    exact absurd hr ht
  · obtain rfl := Host.Outcome.next.inj (h.symm.trans hu)
    exact ⟨_, rfl⟩
  · obtain hc | hraise := exec_completes_or_raises (hu ▸ h)
    · exact absurd (hc.run.trans hr) ht
    · exact hraise

/-- Settles O10: a step that halts a running core ends in `raise`, which leaves the rest. -/
theorem failingStepChangesOnlyTheRunState : Obligations.FailingStepChangesOnlyTheRunState := by
  intro s
  obtain ⟨t, h⟩ := step_next s
  refine ⟨t, h, fun hr ht => ?_⟩
  obtain ⟨cond, rfl⟩ := step_halts_by_raise hr h ht
  rfl

/-! ### The halted core -/

/-- A sequence goes on from the state its first action answers. -/
theorem hostRun_cons_of_act {x : HostAction} {s u : State} (h : act x s = .next u)
    (rest : List HostAction) : hostRun (x :: rest) s = hostRun rest u := by
  rw [hostRun, h]

/-- Settles O9, by induction on the actions: a step request leaves the state, `disable_overlay` the rest of
it, so the core is still halted for the actions that follow. -/
theorem haltedCoreStaysHalted : Obligations.HaltedCoreStaysHalted := by
  intro s cond acts hr
  induction acts generalizing s with
  | nil => exact ⟨s, rfl, rfl, fun _ => rfl⟩
  | cons x rest ih =>
    cases x with
    | step =>
      obtain ⟨t, ht, hframe, hsame⟩ := ih s hr
      exact ⟨t, (hostRun_cons_of_act (x := .step) (step_halted hr) rest).trans ht, hframe,
        fun hacts => hsame fun hrest => hacts (List.mem_cons_of_mem _ hrest)⟩
    | disableOverlay =>
      obtain ⟨t, ht, hframe, -⟩ := ih (disableOverlay s) hr
      exact ⟨t, (hostRun_cons_of_act rfl rest).trans ht, hframe,
        fun hacts => absurd List.mem_cons_self hacts⟩

/-! ### Every run halts (R121)

PC moves up by 1, 2 or 3 at each step, so it cannot pass Video RAM, which reads as 0x00: the distance to its
last address falls at every step that leaves the core running. -/

/-- How far PC is below the last address of Video RAM, modulo 65536. -/
def belowVideoRamEnd (s : State) : Nat :=
  (0x9FFF#16 - s.pc).toNat

theorem belowVideoRamEnd_eq (s : State) :
    belowVideoRamEnd s = (65536 - s.pc.toNat + 0x9FFF) % 65536 := by
  rw [belowVideoRamEnd, BitVec.toNat_sub]
  rfl

/-- A step that leaves the core running began outside Video RAM, and brings PC nearer to its end. -/
theorem step_approaches_videoRamEnd {s t : State} (hr : s.run = .running) (h : step s = .next t)
    (ht : t.run = .running) : belowVideoRamEnd t < belowVideoRamEnd s := by
  have houtside : ¬ (0x8000 ≤ s.pc.toNat ∧ s.pc.toNat ≤ 0x9FFF) := by
    intro hpc
    obtain rfl := Host.Outcome.next.inj
      (h.symm.trans (fetchFromPlaceholderIsIllegal s hr (.inl hpc)))
    cases ht
  rcases pcAdvancesByInstructionLength s t hr h with ⟨-, i, -, hlow, hhigh, hpc⟩ | ⟨hhalted, -⟩
  · have := s.pc.isLt
    rw [belowVideoRamEnd_eq, belowVideoRamEnd_eq]
    omega
  · exact absurd ht hhalted

theorem steps_succ_of_step {s u : State} (h : step s = .next u) (k : Nat) :
    steps (k + 1) s = steps k u := by
  rw [steps, h]

/-- A running core nearer than `n` to the end of Video RAM halts within `n` steps. -/
theorem halts_within_distance (n : Nat) (s : State) (hr : s.run = .running) (hn : belowVideoRamEnd s < n) :
    ∃ k t, k ≤ n ∧ steps k s = .next t ∧ t.run ≠ .running := by
  induction n generalizing s with
  | zero => exact absurd hn (Nat.not_lt_zero _)
  | succ n ih =>
    obtain ⟨u, h⟩ := step_next s
    by_cases hu : u.run = .running
    · have hnearer := step_approaches_videoRamEnd hr h hu
      obtain ⟨k, t, hk, ht, hhalted⟩ := ih u hu (by omega)
      exact ⟨k + 1, t, Nat.succ_le_succ hk, (steps_succ_of_step h k).trans ht, hhalted⟩
    · exact ⟨1, u, Nat.le_add_left 1 n, steps_succ_of_step h 0, hu⟩

/-- Settles O14: the distance is a word, so it is below 65536. -/
theorem everyRunReachesAFailingStep : Obligations.EveryRunReachesAFailingStep :=
  fun s hr => halts_within_distance 65536 s hr (0x9FFF#16 - s.pc).isLt

/-! ### Placing a byte where a read finds it -/

/-- The overlay image shadows an address where it is enabled, there is one, and the address is low (R44). -/
theorem overlayAt_eq_some_iff {s : State} {a : Word} {image : Memory} :
    overlayAt s a = some image ↔
      (s.overlayEnabled = true ∧ a.toNat ≤ 0x00FF) ∧ s.boot = some image := by
  rw [overlayAt, Option.ite_none_right_eq_some]

/-- Replace the overlay image. -/
def setBoot (image : Memory) (s : State) : State :=
  { s with boot := some image }

/-- What placing a byte does: it goes into the overlay image where that shadows the address, else into the
address's cell where that has storage, else nowhere. -/
theorem poke_cases (a : Word) (v : Byte) (s : State) :
    (∃ image, overlayAt s a = some image ∧
      poke a v s = setBoot (Memory.write image a.toNat v) s) ∨
    (overlayAt s a = none ∧ isStored (regionOf (cellOf a)) = true ∧
      poke a v s = storeByte (cellOf a) v s) ∨
    (backed s a = false ∧ poke a v s = s) := by
  cases hov : overlayAt s a with
  | some image => exact .inl ⟨image, rfl, by rw [poke, hov]; rfl⟩
  | none =>
    cases hst : isStored (regionOf (cellOf a)) with
    | true => exact .inr (.inl ⟨rfl, rfl, by rw [poke, hov]; exact if_pos hst⟩)
    | false =>
      exact .inr (.inr ⟨by rw [backed, hov, hst]; rfl, by rw [poke, hov]; exact if_neg (by simp [hst])⟩)

@[simp] theorem poke_pc (a : Word) (v : Byte) (s : State) : (poke a v s).pc = s.pc := by
  obtain ⟨image, -, h⟩ | ⟨-, -, h⟩ | ⟨-, h⟩ := poke_cases a v s <;> exact (congrArg State.pc h).trans rfl

@[simp] theorem poke_run (a : Word) (v : Byte) (s : State) : (poke a v s).run = s.run := by
  obtain ⟨image, -, h⟩ | ⟨-, -, h⟩ | ⟨-, h⟩ := poke_cases a v s <;> exact (congrArg State.run h).trans rfl

/-- Placing a byte gives and takes no address its storage. -/
@[simp] theorem backed_poke (a : Word) (v : Byte) (s : State) (x : Word) :
    backed (poke a v s) x = backed s x := by
  obtain ⟨image, hov, h⟩ | ⟨-, -, h⟩ | ⟨-, h⟩ := poke_cases a v s <;> rw [h]
  · obtain ⟨-, hboot⟩ := overlayAt_eq_some_iff.mp hov
    unfold backed overlayAt setBoot
    rw [hboot]
    split_ifs <;> rfl
  · rfl

/-- A write below the size of an image keeps it in order. -/
theorem imageOk_write {image : Memory} {size k : Nat} (h : imageOk image size) (hk : k < size) (v : Byte) :
    imageOk (Memory.write image k v) size := by
  obtain ⟨hwf, hkeys⟩ := h
  refine ⟨Memory.wf_write hwf k v, fun x hx => ?_⟩
  obtain hx | ⟨rfl, -⟩ := Memory.mem_write hx
  · exact hkeys x hx
  · exact hk

/-- Placing a byte keeps the invariant. -/
theorem Inv.poke {s : State} (hs : Inv s) (a : Word) (v : Byte) : Inv (poke a v s) := by
  obtain ⟨image, hov, h⟩ | ⟨-, hst, h⟩ | ⟨-, h⟩ := poke_cases a v s <;> rw [h]
  · obtain ⟨⟨-, ha⟩, hboot⟩ := overlayAt_eq_some_iff.mp hov
    have himage : imageOk (Memory.write image a.toNat v) 256 :=
      imageOk_write (hs.boot image hboot) (Nat.lt_succ_of_le ha) v
    exact ⟨hs.mem, fun _ hnew => Option.some.inj hnew ▸ himage, fun _ => rfl, hs.run, hs.cycles⟩
  · exact ⟨memOk_write hs.mem hst v, hs.boot, hs.overlay, hs.run, hs.cycles⟩
  · exact hs

/-- An address that nothing shadows, with storage in its cell, reads the cell. -/
theorem busRead_cell {s : State} {a : Word} (hov : overlayAt s a = none)
    (hst : isStored (regionOf (cellOf a)) = true) : busRead s a = Memory.read s.mem (cellOf a).toNat := by
  unfold cellOf at hst ⊢
  split_ifs at hst ⊢ with hecho
  · obtain ⟨hlow, hhigh⟩ := regionOf_eq_echoRam_iff.mp hecho
    rw [busRead_echo hlow hhigh, echoTarget_toNat (by omega)]
  · exact busRead_stored hov (isStored_regionOf_iff.mp hst)

/-- Above the overlay's range a read sees the stored bytes only (R44). -/
theorem busRead_congr_high {s t : State} {a : Word} (ha : 0x00FF < a.toNat) (hm : t.mem = s.mem) :
    busRead t a = busRead s a := by
  simp only [busRead, overlayAt_high _ ha, hm]

/-- A byte placed where there is storage is read there. -/
theorem busRead_poke_same {s : State} (hs : Inv s) {a : Word} (ha : backed s a = true) (v : Byte) :
    busRead (poke a v s) a = v := by
  obtain ⟨image, hov, h⟩ | ⟨hov, hst, h⟩ | ⟨hnot, -⟩ := poke_cases a v s
  · obtain ⟨⟨ho, hlow⟩, hboot⟩ := overlayAt_eq_some_iff.mp hov
    have hread := busRead_shadowed (s := setBoot (Memory.write image a.toNat v) s) ho rfl hlow
    rw [h, hread]
    exact Memory.read_write_same (hs.boot image hboot).1 _ v
  · have hread := busRead_cell (s := storeByte (cellOf a) v s) hov hst
    rw [h, hread]
    exact Memory.read_write_same hs.mem.1 _ v
  · rw [ha] at hnot
    cases hnot

/-- A byte placed in one cell is read in no other. -/
theorem busRead_poke_other {a x : Word} (hx : cellOf x ≠ cellOf a) (v : Byte) (s : State) :
    busRead (poke a v s) x = busRead s x := by
  obtain ⟨image, hov, h⟩ | ⟨-, -, h⟩ | ⟨-, h⟩ := poke_cases a v s <;> rw [h]
  · obtain ⟨⟨ho, -⟩, hboot⟩ := overlayAt_eq_some_iff.mp hov
    have hxa : x.toNat ≠ a.toNat := fun e => hx (congrArg cellOf (BitVec.eq_of_toNat_eq e))
    by_cases hlow : x.toNat ≤ 0x00FF
    · have hread := busRead_shadowed (s := setBoot (Memory.write image a.toNat v) s) ho rfl hlow
      rw [hread, busRead_shadowed ho hboot hlow, Memory.read_write_other _ _ _ hxa]
    · exact busRead_congr_high (Nat.lt_of_not_le hlow) rfl
  · exact busRead_storeByte_other hx v s

/-! ### Placing an instruction (log entry 21) -/

theorem cellOf_toNat (a : Word) :
    (cellOf a).toNat = if 0xE000 ≤ a.toNat ∧ a.toNat ≤ 0xFDFF then a.toNat - 0x2000 else a.toNat := by
  unfold cellOf
  simp only [regionOf_eq_echoRam_iff]
  split_ifs with h
  · exact echoTarget_toNat (by omega)
  · rfl

/-- Addresses less than 0x2000 apart have cells of their own: only Echo RAM shares its cells, and its mirror
lies 0x2000 below. -/
theorem cellOf_add_ne (a : Word) {k : Nat} (hpos : 0 < k) (hk : k < 0x2000) :
    cellOf (a + BitVec.ofNat 16 k) ≠ cellOf a := by
  intro h
  have ha := a.isLt
  have hcells := congrArg BitVec.toNat h
  rw [cellOf_toNat, cellOf_toNat, BitVec.toNat_add, BitVec.toNat_ofNat] at hcells
  split_ifs at hcells <;> omega

/-- Whether the next step fetches from three addresses that have storage. -/
def windowBacked (s : State) : Prop :=
  backed s s.pc = true ∧ backed s (s.pc + 1#16) = true ∧ backed s (s.pc + 2#16) = true

/-- Three bytes placed at PC of a running core, where there is storage for them. -/
def pokeWindow (b0 b1 b2 : Byte) (s : State) : State :=
  poke s.pc b0 (poke (s.pc + 1#16) b1 (poke (s.pc + 2#16) b2 s))

/-- ROM bank 0 has storage, whether or not an overlay shadows it. -/
theorem windowBacked_zero {s : State} (h : s.pc = 0x0000#16) : windowBacked s := by
  unfold windowBacked backed
  rw [h]
  exact ⟨Bool.or_true _, Bool.or_true _, Bool.or_true _⟩

/-- Bytes are placed in a running core that meets the invariant, at a PC with storage behind its window. -/
theorem placeWindow_eq_pokeWindow {s : State} (hs : Inv s) :
    ∃ t, Inv t ∧ t.run = .running ∧ windowBacked t ∧
      ∀ b0 b1 b2, placeWindow b0 b1 b2 s = pokeWindow b0 b1 b2 t := by
  have hrunning (pc : Word) : Inv { s with run := .running, pc := pc } :=
    ⟨hs.mem, hs.boot, hs.overlay, nofun, hs.cycles⟩
  by_cases hw : windowBacked { s with run := .running }
  · refine ⟨_, hrunning s.pc, rfl, hw, fun b0 b1 b2 => ?_⟩
    obtain ⟨h0, h1, h2⟩ := hw
    simp only [placeWindow, h0, h1, h2, Bool.and_true, if_true]
    rfl
  · refine ⟨_, hrunning 0x0000#16, rfl, windowBacked_zero rfl, fun b0 b1 b2 => ?_⟩
    simp only [windowBacked, ← Bool.and_eq_true, ← Bool.and_assoc] at hw
    simp only [placeWindow, if_neg hw]
    rfl

/-- The next step decodes the bytes placed: they lie in three cells, so none covers another. -/
theorem fetchDecode_pokeWindow {s : State} (hs : Inv s) (hw : windowBacked s) (b0 b1 b2 : Byte) :
    fetchDecode (pokeWindow b0 b1 b2 s) = decodeWindow b0 b1 b2 := by
  obtain ⟨h0, h1, h2⟩ := hw
  have hnext : s.pc + 2#16 = s.pc + 1#16 + 1#16 := by rw [BitVec.add_assoc]; rfl
  have h10 : cellOf (s.pc + 1#16) ≠ cellOf s.pc := cellOf_add_ne s.pc (k := 1) (by decide) (by decide)
  have h20 : cellOf (s.pc + 2#16) ≠ cellOf s.pc := cellOf_add_ne s.pc (k := 2) (by decide) (by decide)
  have h21 : cellOf (s.pc + 2#16) ≠ cellOf (s.pc + 1#16) := by
    rw [hnext]
    exact cellOf_add_ne (s.pc + 1#16) (k := 1) (by decide) (by decide)
  have hpc : (pokeWindow b0 b1 b2 s).pc = s.pc := by simp [pokeWindow]
  have hread0 : busRead (pokeWindow b0 b1 b2 s) s.pc = b0 :=
    busRead_poke_same ((hs.poke _ _).poke _ _) (by simpa using h0) b0
  have hread1 : busRead (pokeWindow b0 b1 b2 s) (s.pc + 1#16) = b1 := by
    rw [pokeWindow, busRead_poke_other h10]
    exact busRead_poke_same (hs.poke _ _) (by simpa using h1) b1
  have hread2 : busRead (pokeWindow b0 b1 b2 s) (s.pc + 2#16) = b2 := by
    rw [pokeWindow, busRead_poke_other h20, busRead_poke_other h21]
    exact busRead_poke_same hs h2 b2
  rw [fetchDecode, hpc, hread0, hread1, hread2]

/-- A table word that decodes is one whose first three bytes do. -/
theorem decodeWindow_of_decodeTableWord {nbits w : Nat} {i : Instr} (h : decodeTableWord nbits w = some i) :
    decodeWindow (tableByte nbits w 0) (tableByte nbits w 1) (tableByte nbits w 2) = .ok i := by
  unfold decodeTableWord at h
  split at h
  case h_1 hok => rw [hok, Option.some.inj h]
  case h_2 => cases h

/-- Settles O59: the bytes placed are the ones the next step fetches. -/
theorem placedInstructionIsTheNextOneRun : Obligations.PlacedInstructionIsTheNextOneRun := by
  intro s nbits w i hs hw
  obtain ⟨t, ht, hr, hback, hplace⟩ := placeWindow_eq_pokeWindow hs
  rw [State.withFetchWord, hplace]
  refine step_running (by simpa [pokeWindow] using hr) ?_
  rw [fetchDecode_pokeWindow ht hback]
  exact decodeWindow_of_decodeTableWord hw

end Sys2Proof.Machine

/-! ## Arithmetic and logic, and what the forms that store nothing write (O27 to O35, O48, O50) -/

namespace Sys2Proof.Machine

/-! ### Bytes as integers -/

/-- The zero flag's test on a byte is a test on its integer. -/
theorem beq_zero_eq_decide (b : Byte) : (b == 0#8) = decide (b.toNat = 0) := by
  rw [beq_eq_decide, decide_eq_decide, ← BitVec.toNat_inj]
  rfl

/-- Building a byte drops the multiples of 256. -/
theorem ofNat_mod_256 (n : Nat) : BitVec.ofNat 8 (n % 256) = BitVec.ofNat 8 n :=
  BitVec.eq_of_toNat_eq (by simp only [BitVec.toNat_ofNat, Nat.reducePow, Nat.mod_mod])

/-- The wrapped difference, with R133's two cases. -/
theorem toNat_sub_eq (a v : Byte) :
    (a - v).toNat = if a.toNat ≥ v.toNat then a.toNat - v.toNat else a.toNat + 256 - v.toNat := by
  rw [BitVec.toNat_sub]
  split <;> omega

/-- The wrapped difference with a borrow-in (R134). -/
theorem toNat_sub_sub_eq (a v : Byte) (c : Bool) :
    (a - v - BitVec.ofNat 8 c.toNat).toNat = (a.toNat + 512 - v.toNat - c.toNat) % 256 := by
  have hc := c.toNat_lt
  simp only [BitVec.toNat_sub, BitVec.toNat_ofNat]
  omega

/-! ### The eight operations over integers (R131 to R138) -/

theorem aluAdd_eq (a v : Byte) :
    aluAdd a v = ⟨BitVec.ofNat 8 ((a.toNat + v.toNat) % 256),
      ⟨decide ((a.toNat + v.toNat) % 256 = 0), false, decide (a.toNat % 16 + v.toNat % 16 > 0x0F),
        decide (a.toNat + v.toNat > 0xFF)⟩⟩ := by
  simp only [aluAdd, beq_zero_eq_decide, BitVec.toNat_ofNat, ofNat_mod_256, lowNibble_toNat]

theorem aluAdc_eq (a v : Byte) (c : Bool) :
    aluAdc a v c = ⟨BitVec.ofNat 8 ((a.toNat + v.toNat + c.toNat) % 256),
      ⟨decide ((a.toNat + v.toNat + c.toNat) % 256 = 0), false,
        decide (a.toNat % 16 + v.toNat % 16 + c.toNat > 0x0F),
        decide (a.toNat + v.toNat + c.toNat > 0xFF)⟩⟩ := by
  simp only [aluAdc, beq_zero_eq_decide, BitVec.toNat_ofNat, ofNat_mod_256, lowNibble_toNat, carryIn_toNat]

theorem aluSub_eq (a v : Byte) :
    aluSub a v = ⟨BitVec.ofNat 8 (a - v).toNat,
      ⟨decide ((a - v).toNat = 0), true, decide (a.toNat % 16 < v.toNat % 16),
        decide (a.toNat < v.toNat)⟩⟩ := by
  simp only [aluSub, beq_zero_eq_decide, BitVec.ofNat_toNat, BitVec.setWidth_eq, lowNibble_toNat]

theorem aluSbc_eq (a v : Byte) (c : Bool) :
    aluSbc a v c = ⟨BitVec.ofNat 8 (a - v - BitVec.ofNat 8 c.toNat).toNat,
      ⟨decide ((a - v - BitVec.ofNat 8 c.toNat).toNat = 0), true,
        decide (a.toNat % 16 < v.toNat % 16 + c.toNat), decide (a.toNat < v.toNat + c.toNat)⟩⟩ := by
  simp only [aluSbc, beq_zero_eq_decide, BitVec.ofNat_toNat, BitVec.setWidth_eq, lowNibble_toNat,
    carryIn_toNat]

theorem aluAnd_eq (a v : Byte) : aluAnd a v = ⟨a &&& v, ⟨decide (a &&& v = 0#8), false, true, false⟩⟩ := by
  rw [aluAnd, beq_eq_decide]

theorem aluXor_eq (a v : Byte) : aluXor a v = ⟨a ^^^ v, ⟨decide (a ^^^ v = 0#8), false, false, false⟩⟩ := by
  rw [aluXor, beq_eq_decide]

theorem aluOr_eq (a v : Byte) : aluOr a v = ⟨a ||| v, ⟨decide (a ||| v = 0#8), false, false, false⟩⟩ := by
  rw [aluOr, beq_eq_decide]

/-- A comparison sets zero where the operand is the accumulator. -/
theorem aluCp_eq (a v : Byte) :
    aluCp a v = ⟨a - v, ⟨decide (a = v), true, decide (a.toNat % 16 < v.toNat % 16),
      decide (a.toNat < v.toNat)⟩⟩ := by
  have hzero : a - v = 0#8 ↔ a = v := sub_eq_zero
  simp only [aluCp, beq_eq_decide, hzero, lowNibble_toNat]

/-! ### The instructions of the family (R130) -/

theorem aluCycles_eq (src : Operand8) : aluCycles src = if src = .hli then 8 else 4 := by
  cases src <;> rfl

/-- Where an operation's results go: A unless it is CP, the flags, PC one further, and the family's count. -/
theorem exec_ofAlu_of_compute {op : AluOp} {src : Operand8} {s : State} {res : Byte} {f : Flags}
    (h : aluCompute op s.a (operandRead src s) s.flags.c = ⟨res, f⟩) :
    exec (.ofAlu op src) s = .next { s with
      a := if op = .cp then s.a else res
      flags := f
      pc := s.pc + 1#16
      cycles := some (if src = .hli then 8 else 4) } := by
  rw [exec_ofAlu, execAlu, h, aluCycles_eq]
  cases op <;> rfl

/-- Settles O27: the row's byte, and the sum over integers. -/
theorem addResultAndFlags : Obligations.AddResultAndFlags :=
  fun src s => ⟨encode_ofAlu .add src, exec_ofAlu_of_compute (op := .add) (aluAdd_eq s.a (operandRead src s))⟩

/-- Settles O28: the row's byte, and the sum with the carry flag over integers. -/
theorem adcResultAndFlags : Obligations.AdcResultAndFlags :=
  fun src s => ⟨encode_ofAlu .adc src,
    exec_ofAlu_of_compute (op := .adc) (aluAdc_eq s.a (operandRead src s) s.flags.c)⟩

/-- Settles O29: the row's byte, and the difference in its two cases. -/
theorem subResultAndFlags : Obligations.SubResultAndFlags := by
  intro src s v
  rw [← toNat_sub_eq]
  exact ⟨encode_ofAlu .sub src, exec_ofAlu_of_compute (op := .sub) (aluSub_eq s.a v)⟩

/-- Settles O30: the row's byte, and the difference with the carry flag as borrow. -/
theorem sbcResultAndFlags : Obligations.SbcResultAndFlags := by
  intro src s v cin
  rw [← toNat_sub_sub_eq]
  exact ⟨encode_ofAlu .sbc src, exec_ofAlu_of_compute (op := .sbc) (aluSbc_eq s.a v s.flags.c)⟩

/-- Settles O31: the row's byte, and the conjunction with half-carry set. -/
theorem andResultAndFlags : Obligations.AndResultAndFlags :=
  fun src s => ⟨encode_ofAlu .and src, exec_ofAlu_of_compute (op := .and) (aluAnd_eq s.a (operandRead src s))⟩

/-- Settles O32: the row's byte, and the zero flag from the result. -/
theorem xorResultAndFlags : Obligations.XorResultAndFlags :=
  fun src s => ⟨encode_ofAlu .xor src, exec_ofAlu_of_compute (op := .xor) (aluXor_eq s.a (operandRead src s))⟩

/-- Settles O33: the row's byte, and the disjunction. -/
theorem orResultAndFlags : Obligations.OrResultAndFlags :=
  fun src s => ⟨encode_ofAlu .or src, exec_ofAlu_of_compute (op := .or) (aluOr_eq s.a (operandRead src s))⟩

/-- Settles O34: the row's byte, and A written with itself. -/
theorem cpFlagsOnly : Obligations.CpFlagsOnly :=
  fun src s => ⟨encode_ofAlu .cp src, exec_ofAlu_of_compute (op := .cp) (aluCp_eq s.a (operandRead src s))⟩

/-- The carry of a sum in two stages: the second sum starts from the first one wrapped (R140). -/
theorem carry_of_two_stages {x y : Nat} (c : Bool) (hx : x < 256) (hy : y < 256) :
    x + y + c.toNat > 0xFF ↔ x + y > 0xFF ∨ (x + y) % 256 + c.toNat > 0xFF := by
  have hc := c.toNat_lt
  omega

/-- The borrow of a difference in two stages (R140). -/
theorem borrow_of_two_stages (a v : Byte) (c : Bool) :
    a.toNat < v.toNat + c.toNat ↔ a.toNat < v.toNat ∨ (a - v).toNat < c.toNat := by
  have hc := c.toNat_lt
  rw [toNat_sub_eq]
  split <;> omega

/-- Settles O35: results by the wrapping sum and difference, carry and borrow by the two stages' facts. -/
theorem twoStageCarryAgrees : Obligations.TwoStageCarryAgrees := by
  intro a v c
  rw [aluAdc_eq, aluSbc_eq]
  refine ⟨?_, ?_, ?_, ?_⟩
  · apply BitVec.eq_of_toNat_eq
    simp only [BitVec.toNat_ofNat]
    omega
  · rw [← Bool.decide_or, decide_eq_decide, BitVec.toNat_ofNat]
    exact carry_of_two_stages c a.isLt v.isLt
  · simp only [BitVec.ofNat_toNat, BitVec.setWidth_eq]
  · rw [← Bool.decide_or, decide_eq_decide]
    exact borrow_of_two_stages a v c

/-! ### What the forms that store nothing write -/

/-- Load a register pair or SP (R181 to R184). -/
def loadPair (rr : Pair16) (imm : Word) (s : State) : State :=
  match rr with
  | .BC => setPair .BC imm s
  | .DE => setPair .DE imm s
  | .HL => setPair .HL imm s
  | .SP => setSp imm s

theorem exec_ofLdWord (rr : Pair16) (imm : Word) (s : State) :
    exec (.ofLdWord rr imm) s = .next (advance 3 12 (loadPair rr imm s)) := by
  cases rr <;> rfl

@[simp] theorem loadPair_flags (rr : Pair16) (imm : Word) (s : State) :
    (loadPair rr imm s).flags = s.flags := by
  cases rr <;> rfl

theorem loadPair_sp {rr : Pair16} (h : rr ≠ .SP) (imm : Word) (s : State) :
    (loadPair rr imm s).sp = s.sp := by
  cases rr with
  | SP => exact absurd rfl h
  | _ => rfl

/-- An instruction that stores nothing is one of four: an operation, a byte load into a register, a word load
or a bit test. -/
theorem exec_of_storeAddress_none {i : Instr} {s : State} (h : storeAddress i s = none) :
    (∃ op src, i.value = .alu op src ∧ exec i s = execAlu op src s) ∨
    (∃ r src v len cyc, i.value = .ldByte (.reg r) src ∧
      exec i s = .next (advance len cyc (setReg r v s))) ∨
    (∃ rr imm, i.value = .ldWord rr ∧ exec i s = .next (advance 3 12 (loadPair rr imm s))) ∨
    (∃ index src, i.value = .bit index src ∧ exec i s = execBit index src s) := by
  induction i using Laws.instr_forms with
  | alu op src => exact .inl ⟨op, src, value_ofAlu op src, exec_ofAlu op src s⟩
  | ldRR t src => exact .inr (.inl ⟨t, _, _, 1, 4, value_ofLdRR t src, exec_ofLdRR t src s⟩)
  | ldRHL t => exact .inr (.inl ⟨t, _, _, 1, 8, value_ofLdRHL t, exec_ofLdRHL t s⟩)
  | ldRD8 t imm => exact .inr (.inl ⟨t, _, imm, 2, 8, value_ofLdRD8 t imm, exec_ofLdRD8 t imm s⟩)
  | ldWord rr imm => exact .inr (.inr (.inl ⟨rr, imm, value_ofLdWord rr imm, exec_ofLdWord rr imm s⟩))
  | bit index src =>
    exact .inr (.inr (.inr ⟨index.val, src, value_ofBit index src, exec_ofBit index src s⟩))
  | ldHLR src => cases src <;> cases h
  | ldHLD8 imm => cases h
  | stA dest imm => cases dest <;> cases h

/-- A register that a register write changed is the one written. -/
theorem eq_of_getReg_setReg_ne {q r : Reg8} {v : Byte} {s : State}
    (h : getReg q (setReg r v s) ≠ getReg q s) : q = r :=
  not_imp_comm.mp (getReg_setReg_other s q r v) h

/-- A register that two register writes changed is one of the two written. -/
theorem eq_or_eq_of_getReg_setReg_setReg_ne {q r₁ r₂ : Reg8} {v₁ v₂ : Byte} {s : State}
    (h : getReg q (setReg r₂ v₂ (setReg r₁ v₁ s)) ≠ getReg q s) : q = r₁ ∨ q = r₂ := by
  by_cases hq : q = r₂
  · exact .inr hq
  · rw [getReg_setReg_other _ _ _ _ hq] at h
    exact .inl (eq_of_getReg_setReg_ne h)

/-- An operation writes no register but A, and CP none. -/
theorem execAlu_changes_reg {op : AluOp} {src : Operand8} {s t : State} {q : Reg8}
    (h : execAlu op src s = .next t) (hq : getReg q t ≠ getReg q s) : q = .A ∧ op ≠ .cp := by
  obtain rfl := Host.Outcome.next.inj h
  rw [getReg_advance, getReg_setFlags] at hq
  split at hq
  case isTrue => exact absurd rfl hq
  case isFalse hop => exact ⟨eq_of_getReg_setReg_ne hq, hop⟩

/-- A word load writes its pair's two registers and no other, and LD SP,d16 none. -/
theorem loadPair_changes_reg {rr : Pair16} {imm : Word} {s : State} {q : Reg8}
    (h : getReg q (loadPair rr imm s) ≠ getReg q s) :
    (rr = .BC ∧ (q = .B ∨ q = .C)) ∨ (rr = .DE ∧ (q = .D ∨ q = .E)) ∨ (rr = .HL ∧ (q = .H ∨ q = .L)) := by
  cases rr with
  | BC => exact .inl ⟨rfl, eq_or_eq_of_getReg_setReg_setReg_ne h⟩
  | DE => exact .inr (.inl ⟨rfl, eq_or_eq_of_getReg_setReg_setReg_ne h⟩)
  | HL => exact .inr (.inr ⟨rfl, eq_or_eq_of_getReg_setReg_setReg_ne h⟩)
  | SP => exact absurd (getReg_setSp s q imm) h

/-- The registers that a form that stores nothing can change. -/
theorem reg_changed_of_storeAddress_none {i : Instr} {s t : State} {q : Reg8}
    (hn : storeAddress i s = none) (h : exec i s = .next t) (hq : getReg q t ≠ getReg q s) :
    (q = .A ∧ ∃ op src, i.value = .alu op src ∧ op ≠ .cp) ∨
    (∃ src, i.value = .ldByte (.reg q) src) ∨
    (i.value = .ldWord .BC ∧ (q = .B ∨ q = .C)) ∨
    (i.value = .ldWord .DE ∧ (q = .D ∨ q = .E)) ∨
    (i.value = .ldWord .HL ∧ (q = .H ∨ q = .L)) := by
  rcases exec_of_storeAddress_none hn with ⟨op, src, hv, hu⟩ | ⟨r, src, v, len, cyc, hv, hu⟩ |
    ⟨rr, imm, hv, hu⟩ | ⟨index, src, -, hu⟩ <;> rw [h] at hu
  · obtain ⟨hA, hop⟩ := execAlu_changes_reg hu.symm hq
    exact .inl ⟨hA, op, src, hv, hop⟩
  · obtain rfl := Host.Outcome.next.inj hu
    rw [getReg_advance] at hq
    obtain rfl := eq_of_getReg_setReg_ne hq
    exact .inr (.inl ⟨src, hv⟩)
  · obtain rfl := Host.Outcome.next.inj hu
    rw [getReg_advance] at hq
    rcases loadPair_changes_reg hq with ⟨rfl, hr⟩ | ⟨rfl, hr⟩ | ⟨rfl, hr⟩
    · exact .inr (.inr (.inl ⟨hv, hr⟩))
    · exact .inr (.inr (.inr (.inl ⟨hv, hr⟩)))
    · exact .inr (.inr (.inr (.inr ⟨hv, hr⟩)))
  · obtain rfl := Host.Outcome.next.inj hu
    exact absurd (by simp only [getReg_advance, getReg_setFlags]) hq

/-- A form that stores nothing changes SP only if it is LD SP,d16. -/
theorem sp_changed_of_storeAddress_none {i : Instr} {s t : State} (hn : storeAddress i s = none)
    (h : exec i s = .next t) (hsp : t.sp ≠ s.sp) : i.value = .ldWord .SP := by
  rcases exec_of_storeAddress_none hn with ⟨op, src, -, hu⟩ | ⟨r, src, v, len, cyc, -, hu⟩ |
      ⟨rr, imm, hv, hu⟩ | ⟨index, src, -, hu⟩ <;>
    obtain rfl := Host.Outcome.next.inj (h.symm.trans hu)
  · exact absurd (by cases op <;> rfl) hsp
  · exact absurd (setReg_sp s r v) hsp
  · obtain rfl : rr = .SP := not_imp_comm.mp (loadPair_sp · imm s) hsp
    exact hv
  · exact absurd rfl hsp

/-- Settles O48: such a form completes with the stored bytes as they were, and the four kinds of it say which
registers and SP can change. -/
theorem registerFormFrame : Obligations.RegisterFormFrame := by
  intro i s t hn h
  have hframe : t.mem = s.mem ∧ Completes i s t := by
    rcases exec_cases i s with ⟨-, u, hu, hm, hc⟩ | ⟨a, _, ha, -⟩ | ⟨a, _, ha, -⟩ | ⟨a, ha, -⟩
    · obtain rfl := Host.Outcome.next.inj (h.symm.trans hu)
      exact ⟨hm, hc⟩
    all_goals
      rw [hn] at ha
      cases ha
  obtain ⟨hm, hc⟩ := hframe
  exact ⟨busRead_congr hc.overlay hc.boot hm, hm, hc.run, hc.overlay, hc.boot,
    fun _ => reg_changed_of_storeAddress_none hn h, sp_changed_of_storeAddress_none hn h⟩

/-- What an instruction does to the flags: an operation sets them, a bit test keeps the carry flag, and any
other leaves them. -/
theorem exec_flags_cases {i : Instr} {s t : State} (h : exec i s = .next t) :
    (∃ op src, i.value = .alu op src) ∨ (∃ index src, i.value = .bit index src ∧ t.flags.c = s.flags.c) ∨
    t.flags = s.flags := by
  rcases exec_cases i s with ⟨hn, -⟩ | ⟨a, u, -, -, hu, -, hf, -⟩ | ⟨a, u, -, -, hu, -, hf, -⟩ |
    ⟨a, -, -, hu⟩
  · rcases exec_of_storeAddress_none hn with ⟨op, src, hv, -⟩ | ⟨r, src, v, len, cyc, -, hu⟩ |
      ⟨rr, imm, -, hu⟩ | ⟨index, src, hv, hu⟩
    · exact .inl ⟨op, src, hv⟩
    · obtain rfl := Host.Outcome.next.inj (h.symm.trans hu)
      exact .inr (.inr (setReg_flags s r v))
    · obtain rfl := Host.Outcome.next.inj (h.symm.trans hu)
      exact .inr (.inr (loadPair_flags rr imm s))
    · obtain rfl := Host.Outcome.next.inj (h.symm.trans hu)
      exact .inr (.inl ⟨index, src, hv, rfl⟩)
  · obtain rfl := Host.Outcome.next.inj (h.symm.trans hu)
    exact .inr (.inr hf)
  · obtain rfl := Host.Outcome.next.inj (h.symm.trans hu)
    exact .inr (.inr hf)
  · obtain rfl := Host.Outcome.next.inj (h.symm.trans hu)
    exact .inr (.inr rfl)

/-- Settles O50: the first two kinds are the families named, and a bit test is not of the first. -/
theorem onlyAluAndBitWriteFlags : Obligations.OnlyAluAndBitWriteFlags := by
  intro i s t h
  rcases exec_flags_cases h with ⟨op, src, hv⟩ | ⟨index, src, hv, hc⟩ | hf
  · refine ⟨fun _ => ⟨src, .inl ⟨op, hv⟩⟩, fun index src' hbit => ?_⟩
    rw [hv] at hbit
    cases hbit
  · exact ⟨fun _ => ⟨src, .inr ⟨index, hv⟩⟩, fun _ _ _ => hc⟩
  · exact ⟨fun hne => absurd hf hne, fun _ _ _ => congrArg Flags.c hf⟩

end Sys2Proof.Machine

/-! ## Byte loads, and what the forms that store leave unchanged (O36 to O39, O49) -/

namespace Sys2Proof.Machine

/-! ### The forms that store, one by one (R63) -/

/-- Only a byte load into memory and a store of A have an address to store to. -/
theorem value_of_storeAddress_some {i : Instr} {s : State} {a : Word} (h : storeAddress i s = some a) :
    (∃ src, i.value = .ldByte .hli src) ∨ ∃ dest, i.value = .stA dest := by
  unfold storeAddress at h
  split at h
  case h_1 imm => exact .inr ⟨.a16, rfl⟩
  case h_2 =>
    split at h
    case h_1 src hv => exact .inl ⟨src, hv⟩
    case h_7 => cases h
    all_goals exact .inr ⟨_, ‹_›⟩

/-- So an instruction that stores is LD (HL),r, LD (HL),d8 or one of the six stores of A. -/
theorem form_of_storeAddress_some {i : Instr} {s : State} {a : Word} (h : storeAddress i s = some a) :
    (∃ src, i = .ofLdHLR src) ∨ (∃ imm, i = .ldHLIndD8 imm) ∨ ∃ dest imm, i = .ofStA dest imm := by
  obtain ⟨d0, d1, hi⟩ := exists_ofValue i
  obtain ⟨src, hv⟩ | ⟨dest, hv⟩ := value_of_storeAddress_some h <;> rw [hv] at hi
  · cases src with
    | operand o =>
      cases o with
      | hli => cases hi
      | reg r => exact .inl ⟨r, (Option.some.inj hi).symm⟩
    | d8 => exact .inr (.inl ⟨d0, (Option.some.inj hi).symm⟩)
  · exact .inr (.inr ⟨dest, _, (Option.some.inj hi).symm⟩)

/-- What follows the write is the advance, and for LD (HL+),A and LD (HL-),A a new HL before it (R160, R190). -/
theorem exec_of_storeAddress_some {i : Instr} {s : State} {a : Word} (h : storeAddress i s = some a) :
    (∃ v len cyc, exec i s = execStore a v (advance len cyc) s) ∨
    ((i = .ldHLIncA ∨ i = .ldHLDecA) ∧
      ∃ v w, exec i s = execStore a v (fun t => advance 1 8 (setPair .HL w t)) s) := by
  obtain ⟨src, rfl⟩ | ⟨imm, rfl⟩ | ⟨dest, imm, rfl⟩ := form_of_storeAddress_some h
  · have ha : storeAddress (.ofLdHLR src) s = some (getPair .HL s) := by cases src <;> rfl
    obtain rfl := Option.some.inj (ha.symm.trans h)
    exact .inl ⟨getReg src s, 1, 8, exec_ofLdHLR src s⟩
  · obtain rfl := Option.some.inj h
    exact .inl ⟨imm, 2, 8, rfl⟩
  · have ha : storeAddress (.ofStA dest imm) s = some (addressStoreA dest imm s) := by cases dest <;> rfl
    obtain rfl := Option.some.inj (ha.symm.trans h)
    rw [exec_ofStA]
    cases dest with
    | hliInc => exact .inr ⟨.inl rfl, s.a, getPair .HL s + 1#16, rfl⟩
    | hld => exact .inr ⟨.inr rfl, s.a, getPair .HL s - 1#16, rfl⟩
    | bci => exact .inl ⟨s.a, 1, 8, rfl⟩
    | dei => exact .inl ⟨s.a, 1, 8, rfl⟩
    | a16 => exact .inl ⟨s.a, 3, 16, rfl⟩
    | highC => exact .inl ⟨s.a, Params.highPageStoreLen, 8, rfl⟩

/-! ### What the forms that store leave unchanged (R51, R160, R190) -/

/-- Where a store changes a register, what follows the write did: the write leaves every register. -/
theorem execStore_changes_reg {a : Word} {v : Byte} {rest : State → State} {s t : State} {q : Reg8}
    (h : execStore a v rest s = .next t) (hq : getReg q t ≠ getReg q s) :
    ∃ u, getReg q u = getReg q s ∧ t = rest u := by
  rcases execStore_cases a v rest s with ⟨-, hu⟩ | ⟨-, hu⟩ | ⟨-, hu⟩ <;>
    obtain rfl := Host.Outcome.next.inj (h.symm.trans hu)
  · exact ⟨s, rfl, rfl⟩
  · exact ⟨storeByte a v s, getReg_storeByte s q a v, rfl⟩
  · exact absurd (getReg_raise s q _) hq

/-- The registers that a form that stores can change are H and L, by LD (HL+),A and LD (HL-),A. -/
theorem reg_changed_of_storeAddress_some {i : Instr} {s t : State} {a : Word} {q : Reg8}
    (ha : storeAddress i s = some a) (h : exec i s = .next t) (hq : getReg q t ≠ getReg q s) :
    (i = .ldHLIncA ∨ i = .ldHLDecA) ∧ (q = .H ∨ q = .L) := by
  obtain ⟨v, len, cyc, hu⟩ | ⟨hi, v, w, hu⟩ := exec_of_storeAddress_some ha <;>
    obtain ⟨u, hkept, rfl⟩ := execStore_changes_reg (hu.symm.trans h) hq <;>
    rw [getReg_advance, ← hkept] at hq
  · exact absurd rfl hq
  · exact ⟨hi, eq_or_eq_of_getReg_setReg_setReg_ne hq⟩

/-- Where a byte stored in RAM does not show, memory reads as before. -/
theorem sameReadsExcept_of_write {s t : State} {a : Word} {v : Byte}
    (ho : t.overlayEnabled = s.overlayEnabled) (hb : t.boot = s.boot)
    (hm : t.mem = Memory.write s.mem a.toNat v) : sameReadsExcept a s t := by
  intro x hx
  have hstore : busRead t x = busRead (storeByte a v s) x := busRead_congr (s := storeByte a v s) ho hb hm x
  exact hstore.trans (busRead_storeByte_other (mt shows_of_cellOf_eq hx) v s)

/-- Settles O49: a form that stores keeps nothing, stores one byte in RAM, or halts the core. -/
theorem storeFormFrame : Obligations.StoreFormFrame := by
  intro i s t a ha h
  have hreg (q : Reg8) := reg_changed_of_storeAddress_some (q := q) ha h
  rcases exec_cases i s with ⟨hn, -⟩ | ⟨b, u, -, -, hu, hm, hf, hsp, hc⟩ |
      ⟨b, u, hb, -, hu, hm, hf, hsp, hc⟩ | ⟨b, -, -, hu⟩
  · rw [hn] at ha
    cases ha
  · obtain rfl := Host.Outcome.next.inj (h.symm.trans hu)
    exact ⟨fun x _ => busRead_congr hc.overlay hc.boot hm x, hf, hsp, hc.overlay, hc.boot, hreg⟩
  · obtain rfl := Host.Outcome.next.inj (h.symm.trans hu)
    obtain rfl := Option.some.inj (ha.symm.trans hb)
    exact ⟨sameReadsExcept_of_write hc.overlay hc.boot hm, hf, hsp, hc.overlay, hc.boot, hreg⟩
  · obtain rfl := Host.Outcome.next.inj (h.symm.trans hu)
    exact ⟨fun _ _ => rfl, rfl, rfl, rfl, rfl, hreg⟩

/-! ### The byte loads (R161 to R165) -/

/-- The opcode byte of a load from memory: the source field is (HL)'s code. -/
theorem opcode_ldRHL (t : Reg8) :
    (Value.ldByte (.reg t) (.operand .hli)).opcode = BitVec.ofNat 8 (0x46 + 8 * regCode t) :=
  congrArg (BitVec.ofNat 8) (Nat.add_right_comm 0x40 (8 * regCode t) 6)

/-- The opcode byte of a load of an immediate. -/
theorem opcode_ldRD8 (t : Reg8) :
    (Value.ldByte (.reg t) .d8).opcode = BitVec.ofNat 8 (0x06 + 8 * regCode t) :=
  congrArg (BitVec.ofNat 8) (Nat.add_right_comm 0 (8 * regCode t) 6)

/-- A load into a register cannot fail. -/
theorem execLdByte_reg (t : Reg8) (v : Byte) (len cyc : Nat) (s : State) :
    execLdByte (.reg t) v len cyc s = .next { setReg t v s with
      pc := s.pc + BitVec.ofNat 16 len
      cycles := some cyc } := by
  rw [← setReg_pc s t v]
  rfl

/-- A load into memory completes where the address takes a write. -/
theorem execLdByte_hli_accepts {s : State} (h : acceptsWrite (s.h ++ s.l)) (v : Byte) (len cyc : Nat) :
    execLdByte .hli v len cyc s = .next { s with
      mem := memAfterWrite (s.h ++ s.l) v s
      pc := s.pc + BitVec.ofNat 16 len
      cycles := some cyc } :=
  execStore_accepts h v (advance len cyc) s

/-- Settles O36: the row's byte, and the source register's value written to the target. -/
theorem loadRegisterFromRegister : Obligations.LoadRegisterFromRegister :=
  fun t src s => ⟨encode_ofLdRR t src,
    (exec_ofLdRR t src s).trans (execLdByte_reg t (getReg src s) 1 4 s)⟩

/-- Settles O37: the row's byte, and the byte at HL read before the target is written. -/
theorem loadRegisterFromMemory : Obligations.LoadRegisterFromMemory := by
  intro t s
  rw [encode_ofLdRHL, opcode_ldRHL, exec_ofLdRHL]
  exact ⟨rfl, execLdByte_reg t (busRead s (s.h ++ s.l)) 1 8 s⟩

/-- Settles O38: the row's byte and the immediate after it, and the immediate written to the target. -/
theorem loadRegisterImmediate : Obligations.LoadRegisterImmediate := by
  intro t imm s
  rw [encode_ofLdRD8, opcode_ldRD8, exec_ofLdRD8]
  exact ⟨rfl, execLdByte_reg t imm 2 8 s⟩

/-- Settles O39: the rows' bytes, and the write at HL accepted. -/
theorem loadMemoryCompletesWhereWritesAreAccepted :
    Obligations.LoadMemoryCompletesWhereWritesAreAccepted := by
  refine fun s h => ⟨fun src => ⟨encode_ofLdHLR src, ?_⟩, fun imm => ⟨rfl, ?_⟩⟩
  · exact (exec_ofLdHLR src s).trans (execLdByte_hli_accepts h (getReg src s) 1 8)
  · exact execLdByte_hli_accepts h imm 2 8

end Sys2Proof.Machine

/-! ## Word loads (O40, O41) -/

namespace Sys2Proof.Machine

/-- The bytes of a word load whose word is given by its two bytes: the low byte stands first (R180). -/
theorem encode_ofLdWord_append (rr : Pair16) (lo hi : Byte) :
    encode (.ofLdWord rr (hi ++ lo)) = [(Value.ldWord rr).opcode, lo, hi] := by
  rw [encode_ofLdWord, ← join, loByte_join, hiByte_join]

/-- A general pair written from two bytes: the high byte goes to the first-named register (R15). -/
theorem setPair_append (lo hi : Byte) (s : State) :
    setPair .BC (hi ++ lo) s = { s with b := hi, c := lo } ∧
    setPair .DE (hi ++ lo) s = { s with d := hi, e := lo } ∧
    setPair .HL (hi ++ lo) s = { s with h := hi, l := lo } := by
  rw [← join, setPair, setPair, setPair, loByte_join, hiByte_join]
  exact ⟨rfl, rfl, rfl⟩

/-- A word load is its register write, three bytes of PC and twelve cycles (R180). -/
theorem exec_ofLdWord_of_loadPair {rr : Pair16} {imm : Word} {s t : State} (h : loadPair rr imm s = t) :
    exec (.ofLdWord rr imm) s = .next { t with pc := t.pc + 3#16, cycles := some 12 } := by
  rw [exec_ofLdWord, h]
  rfl

/-- Settles O40: the row's byte and the two bytes of the word, and the pair written from them. -/
theorem loadPairImmediate : Obligations.LoadPairImmediate := by
  intro lo hi s
  obtain ⟨hbc, hde, hhl⟩ := setPair_append lo hi s
  exact ⟨encode_ofLdWord_append .BC lo hi, exec_ofLdWord_of_loadPair (rr := .BC) hbc,
    encode_ofLdWord_append .DE lo hi, exec_ofLdWord_of_loadPair (rr := .DE) hde,
    encode_ofLdWord_append .HL lo hi, exec_ofLdWord_of_loadPair (rr := .HL) hhl⟩

/-- An instruction whose value is the load of SP is LD SP,d16 with some immediate. -/
theorem eq_ldSPD16_of_value {i : Instr} (h : i.value = .ldWord .SP) : ∃ imm, i = .ldSPD16 imm := by
  obtain ⟨d0, d1, hi⟩ := exists_ofValue i
  rw [h] at hi
  exact ⟨join d1 d0, (Option.some.inj hi).symm⟩

/-- SP differs after an instruction only if that is the load of SP: a form that stores keeps SP whether or not
its write is accepted, and of the others only that one writes it (R19). -/
theorem sp_changed_of_exec {i : Instr} {s t : State} (h : exec i s = .next t) (hsp : t.sp ≠ s.sp) :
    i.value = .ldWord .SP := by
  cases ha : storeAddress i s with
  | none => exact sp_changed_of_storeAddress_none ha h hsp
  | some a =>
    obtain ⟨-, -, hkept, -⟩ := storeFormFrame i s t a ha h
    exact absurd hkept hsp

/-- Settles O41: the row's byte and the two bytes of the word, the word written to SP, and no other instruction
that changes SP. -/
theorem onlyLoadSpWritesSp : Obligations.OnlyLoadSpWritesSp :=
  ⟨fun lo hi _ => ⟨encode_ofLdWord_append .SP lo hi, exec_ofLdWord_of_loadPair (rr := .SP) rfl⟩,
    fun _ _ _ h hsp => eq_ldSPD16_of_value (sp_changed_of_exec h hsp)⟩

end Sys2Proof.Machine

/-! ## Stores of A (O42 to O44) -/

namespace Sys2Proof.Machine

/-! ### A store of A that is accepted (R190) -/

/-- A store of A completes where its address takes a write: the byte is stored before the rest happens. -/
theorem exec_ofStA_accepts {dest : StoreDest} {imm : Word} {s : State}
    (h : acceptsWrite (addressStoreA dest imm s)) :
    exec (.ofStA dest imm) s =
      .next (afterStoreA dest s (setMem (memAfterWrite (addressStoreA dest imm s) s.a s) s)) :=
  (exec_ofStA dest imm s).trans (execStore_accepts h s.a (afterStoreA dest s) s)

/-- The bytes of LD (a16),A whose address is given by its two bytes: the low byte stands first (R195). -/
theorem encode_ldA16IndA_append (lo hi : Byte) : encode (.ldA16IndA (hi ++ lo)) = [0xEA#8, lo, hi] :=
  calc encode (.ldA16IndA (hi ++ lo))
      = [0xEA#8, loByte (join hi lo), hiByte (join hi lo)] := encode_ofStA .a16 (join hi lo)
    _ = [0xEA#8, lo, hi] := by rw [loByte_join, hiByte_join]

/-- Settles O42: the rows' bytes, and the write at the pair or at the immediate accepted. -/
theorem storeAToPairOrAbsoluteAddress : Obligations.StoreAToPairOrAbsoluteAddress := by
  refine fun s => ⟨rfl, fun h => ?_, rfl, fun h => ?_,
    fun lo hi => ⟨encode_ldA16IndA_append lo hi, fun h => ?_⟩⟩
  · exact exec_ofStA_accepts (dest := .bci) (imm := 0#16) h
  · exact exec_ofStA_accepts (dest := .dei) (imm := 0#16) h
  · exact exec_ofStA_accepts (dest := .a16) h

/-! ### HL stepped (R193, R194) -/

/-- HL stepped up wraps from 0xFFFF to 0 (D10). -/
theorem getPair_HL_add_one_toNat (s : State) :
    (getPair .HL s + 1#16).toNat = (256 * s.h.toNat + s.l.toNat + 1) % 65536 := by
  rw [getPair, BitVec.toNat_add, join_toNat]
  rfl

/-- HL stepped down wraps from 0 to 0xFFFF (D10). -/
theorem getPair_HL_sub_one_toNat (s : State) :
    (getPair .HL s - 1#16).toNat = (256 * s.h.toNat + s.l.toNat + 65535) % 65536 := by
  rw [getPair, BitVec.toNat_sub, join_toNat, Nat.add_comm]
  rfl

/-- Settles O43: the rows' bytes, and after the accepted write HL stepped as a number. -/
theorem storeAAndStepHl : Obligations.StoreAAndStepHl := by
  refine fun s => ⟨rfl, rfl, fun h => ⟨?_, ?_⟩⟩
  · rw [← getPair_HL_add_one_toNat, ← hiByte_eq_ofNat, ← loByte_eq_ofNat]
    exact exec_ofStA_accepts (dest := .hliInc) (imm := 0#16) h
  · rw [← getPair_HL_sub_one_toNat, ← hiByte_eq_ofNat, ← loByte_eq_ofNat]
    exact exec_ofStA_accepts (dest := .hld) (imm := 0#16) h

/-! ### The high page (R196) -/

/-- The high-page address is C as low byte under 0xFF: the two operands of the `or` have no bit in common. -/
theorem highPage_eq_join (c : Byte) : highPage c = join 0xFF#8 c := by
  have hc : c.setWidth 16 = (0#8 ++ c : Word) := (BitVec.setWidth_eq_append (by decide)).trans rfl
  calc highPage c
      = (0xFF#8 ++ 0x00#8 : Word) ||| (0#8 ++ c : Word) := by rw [highPage, hc]; rfl
    _ = ((0xFF#8 ||| 0#8) ++ (0x00#8 ||| c) : Word) := BitVec.or_append
    _ = join 0xFF#8 c := by rw [BitVec.or_zero, BitVec.zero_or, join]

/-- The high-page address as a number (R196). -/
theorem highPage_toNat (c : Byte) : (highPage c).toNat = 0xFF00 + c.toNat := by
  rw [highPage_eq_join, join_toNat]
  rfl

/-- The high page takes a write everywhere but at 0xFFFF (R50). -/
theorem acceptsWrite_highPage {c : Byte} (hc : c.toNat < 0xFF) : acceptsWrite (highPage c) := by
  have := highPage_toNat c
  exact .inr (by omega)

/-- Of the high page below 0xFFFF, the upper half is RAM and the I/O range keeps nothing (R51, R62, D12). -/
theorem memAfterWrite_highPage {c : Byte} (hc : c.toNat < 0xFF) (v : Byte) (s : State) :
    memAfterWrite (highPage c) v s =
      if 0x80 ≤ c.toNat then Memory.write s.mem (0xFF00 + c.toNat) v else s.mem := by
  have hram : isRam (highPage c) ↔ 0x80 ≤ c.toNat := by
    rw [isRam, highPage_toNat]
    omega
  rw [← highPage_toNat]
  exact if_congr hram rfl rfl

/-- Settles O44: the byte's entry whatever follows it, the accepted write below 0xFFFF, and the halt there. -/
theorem storeAToHighPage : Obligations.StoreAToHighPage := by
  refine fun s => ⟨fun d0 d1 => ?_, fun hc => ?_, fun hc => ?_⟩
  · exact lookup_of_ofValue (decodeByte_opcode (v := .stA .highC) rfl) rfl
  · have hlt : s.c.toNat < 0xFF := by bv_omega
    rw [← memAfterWrite_highPage hlt]
    exact exec_ofStA_accepts (dest := .highC) (imm := 0#16) (acceptsWrite_highPage hlt)
  · have haddr : storeAddress .ldCIndA s = some (highPage s.c) := rfl
    rw [hc] at haddr
    exact exec_store_halts haddr (.inr rfl)

end Sys2Proof.Machine

/-! ## The single-bit test (O47) -/

namespace Sys2Proof.Machine

/-- A bit is clear exactly where the integer, shifted down to it, is even. -/
theorem not_getLsbD_eq_decide (v : Byte) (index : Nat) :
    (!v.getLsbD index) = decide (v.toNat / 2 ^ index % 2 = 0) := by
  rw [← BitVec.testBit_toNat, Nat.testBit_eq_decide_div_mod_eq, ← decide_not, decide_eq_decide]
  exact Nat.mod_two_not_eq_one

theorem bitFlags_eq (v : Byte) (index : Nat) (old : Flags) :
    bitFlags v index old = ⟨decide (v.toNat / 2 ^ index % 2 = 0), false, true, old.c⟩ := by
  rw [bitFlags, not_getLsbD_eq_decide]

theorem bitCycles_eq (src : Operand8) : bitCycles src = if src = .hli then 12 else 8 := by
  cases src <;> rfl

/-- Settles O47: the prefixed row's bytes, and the zero flag from the bit's integer form. -/
theorem bitTestFlags : Obligations.BitTestFlags := by
  refine fun index src s => ⟨encode_ofBit index src, ?_⟩
  rw [exec_ofBit, execBit, bitFlags_eq, bitCycles_eq]
  rfl

end Sys2Proof.Machine

/-! ## The conditions: an illegal opcode and a wrong image size (O8, O56) -/

namespace Sys2Proof.Machine

/-! ### IllegalOpcode (R223) -/

/-- A failed fetch hands back its byte and table, and only `run` and the count are not as they were. -/
theorem step_reports_illegal {s : State} {b : Byte} {prefixed : Bool} (hr : s.run = .running)
    (hf : fetchDecode s = .error ⟨b, prefixed⟩) :
    ∃ t, step s = .next t ∧
      t = { s with run := .halted (.illegalOpcode b prefixed), cycles := none } ∧
      t.report = .condition (.illegalOpcode b prefixed) :=
  ⟨_, step_illegal hr hf, rfl, rfl⟩

/-- Settles O8: in either table the byte's missing entry makes the fetch fail with that byte. -/
theorem illegalOpcodeHaltsUnchanged : Obligations.IllegalOpcodeHaltsUnchanged := by
  refine fun s hr => ⟨fun hb hnone => ?_, fun hb hnone => ?_⟩
  · exact step_reports_illegal hr ((fetchDecode_of_ne_prefixByte hb).trans (lookup_none hnone _ _))
  · exact step_reports_illegal hr ((fetchDecode_of_prefixByte hb).trans (lookup_none hnone _ _))

/-! ### InvalidImageSize (R222) -/

section
variable {boot : Option (List Byte)} {cart : List Byte}

/-- The overlay check of `construct` rejects a supplied image that is not of 256 bytes, and nothing else. -/
theorem overlaySizeCheck_iff :
    boot.any (fun image => image.length != Config.bootSize) = true ↔
      ∃ image, boot = some image ∧ image.length ≠ 256 := by
  simp only [Option.any_eq_true, bne_iff_ne, Config.bootSize]

/-- An image of the wrong size is refused, by the overlay's check or by the cartridge's. -/
theorem construct_refused
    (h : (∃ image, boot = some image ∧ image.length ≠ 256) ∨ cart.length < 32768)
    (cram : Vector Byte 8192) (iram : Vector Byte 8192) (zram : Vector Byte 127) (sp : Word) :
    construct boot cart cram iram zram sp = .refused .invalidImageSize := by
  rw [construct]
  by_cases hoverlay : ∃ image, boot = some image ∧ image.length ≠ 256
  · exact if_pos (overlaySizeCheck_iff.mpr hoverlay)
  · exact (if_neg (mt overlaySizeCheck_iff.mp hoverlay)).trans (if_pos (h.resolve_left hoverlay))

/-- Images that pass both checks are answered with a state, the cartridge's however long it is. -/
theorem construct_next (hboot : ∀ image, boot = some image → image.length = 256)
    (hcart : 32768 ≤ cart.length)
    (cram : Vector Byte 8192) (iram : Vector Byte 8192) (zram : Vector Byte 127) (sp : Word) :
    ∃ t, construct boot cart cram iram zram sp = .next t := by
  have hoverlay : ¬ ∃ image, boot = some image ∧ image.length ≠ 256 :=
    fun ⟨image, hsome, hne⟩ => hne (hboot image hsome)
  rw [construct]
  exact ⟨_, (if_neg (mt overlaySizeCheck_iff.mp hoverlay)).trans (if_neg (Nat.not_lt.mpr hcart))⟩

end

/-- Settles O56: the two checks of `construct`, and every step answers a next state. -/
theorem constructionRefusesWrongSizes : Obligations.ConstructionRefusesWrongSizes := by
  refine ⟨fun boot cart cram iram zram sp => ⟨fun h => ?_, fun hboot hcart => ?_⟩, fun s hrefused => ?_⟩
  · exact construct_refused h cram iram zram sp
  · exact construct_next hboot hcart cram iram zram sp
  · obtain ⟨t, hnext⟩ := step_next s
    cases hnext.symm.trans hrefused

end Sys2Proof.Machine

/-! ## The count and advance of every form, and the constructed state (O13, O57) -/

namespace Sys2Proof.Machine

/-! ### The table of R263 -/

/-- Settles O13: an instruction completes with its form's count and advance, or halts by `raise`. -/
theorem cycleCountAndLengthByForm : Obligations.CycleCountAndLengthByForm := by
  intro i s t hr h
  refine ⟨format_length i.value, ?_⟩
  obtain hc | ⟨cond, rfl⟩ := exec_completes_or_raises h
  · exact ⟨fun _ => ⟨hc.cycles, hc.pc⟩, fun hhalted => absurd (hc.run.trans hr) hhalted⟩
  · exact ⟨nofun, fun _ => ⟨rfl, rfl⟩⟩

/-! ### A loaded image, alone and with others loaded above it -/

/-- A loaded image reads back its bytes, and past its end the unlisted byte. -/
theorem Memory.read_ofBytes (base : Nat) (bytes : List Byte) (k : Nat) :
    Memory.read (Memory.ofBytes base bytes) (base + k) = bytes.getD k 0#8 := by
  induction bytes generalizing base k with
  | nil => rfl
  | cons v rest ih =>
    have hbelow : ∀ x ∈ Memory.ofBytes (base + 1) rest, base < x.1 := fun _ hx => (Memory.mem_ofBytes hx).1
    rw [Memory.ofBytes]
    cases k with
    | zero =>
      split_ifs with hv
      · exact (Memory.read_below hbelow).trans hv.symm
      · exact Memory.read_cons_same base v _
    | succ k =>
      have hrest := ih (base + 1) k
      rw [Nat.add_right_comm] at hrest
      split_ifs
      · exact hrest
      · exact (Memory.read_cons_other (by omega) v _).trans hrest

/-- A key below every one of the second list is read from the first. -/
theorem Memory.read_append_below {m n : Memory} {a : Nat} (h : ∀ x ∈ n, a < x.1) :
    Memory.read (m ++ n) a = Memory.read m a := by
  induction m with
  | nil => exact Memory.read_below h
  | cons x m ih => simp only [List.cons_append, Memory.read, ih]

/-- Nothing is stored below `low`. -/
def keysFrom (low : Nat) (m : Memory) : Prop :=
  ∀ x ∈ m, low ≤ x.1

theorem keysFrom_ofBytes {low base : Nat} (h : low ≤ base) (bytes : List Byte) :
    keysFrom low (Memory.ofBytes base bytes) :=
  fun _ hx => h.trans (Memory.mem_ofBytes hx).1

theorem keysFrom.append {low : Nat} {m n : Memory} (hm : keysFrom low m) (hn : keysFrom low n) :
    keysFrom low (m ++ n) :=
  fun x hx => (List.mem_append.mp hx).elim (hm x) (hn x)

section
variable {base : Nat} {bytes : List Byte} {n : Memory}

/-- An image reads back its bytes under what is loaded from its end on. -/
theorem read_ofBytes_append_inside (hn : keysFrom (base + bytes.length) n) {k : Nat}
    (hk : k < bytes.length) :
    Memory.read (Memory.ofBytes base bytes ++ n) (base + k) = bytes.getD k 0#8 := by
  have habove : ∀ x ∈ n, base + k < x.1 := fun x hx => (Nat.add_lt_add_left hk base).trans_le (hn x hx)
  rw [Memory.read_append_below habove, Memory.read_ofBytes]

/-- From its end on, an image hides nothing of what is loaded there. -/
theorem read_ofBytes_append_above {a : Nat} (ha : base + bytes.length ≤ a) :
    Memory.read (Memory.ofBytes base bytes ++ n) a = Memory.read n a :=
  Memory.read_append fun _ hx => ((Memory.mem_ofBytes hx).2.1.trans_le ha).ne

/-- An image that fits ROM, cartridge and internal RAM, or the zero page lies where there is storage (R41). -/
theorem memOk_ofBytes
    (h : base + bytes.length ≤ 0x8000 ∨ (0xA000 ≤ base ∧ base + bytes.length ≤ 0xE000) ∨
      (0xFF80 ≤ base ∧ base + bytes.length ≤ 0xFFFF)) : memOk (Memory.ofBytes base bytes) := by
  refine ⟨Memory.wf_ofBytes base bytes, fun x hx => ?_⟩
  obtain ⟨hlow, hhigh, -⟩ := Memory.mem_ofBytes hx
  have hlt : x.1 < 65536 := by omega
  have hnat : (BitVec.ofNat 16 x.1).toNat = x.1 := Nat.mod_eq_of_lt hlt
  exact ⟨hlt, isStored_regionOf_iff.mpr (by omega)⟩

/-- An image and what is loaded from its end on are in order together. -/
theorem memOk_ofBytes_append (hm : memOk (Memory.ofBytes base bytes)) (hn : memOk n)
    (habove : keysFrom (base + bytes.length) n) : memOk (Memory.ofBytes base bytes ++ n) := by
  refine ⟨Memory.wf_append hm.1 hn.1 fun x hx y hy => ?_, fun x hx => ?_⟩
  · exact (Memory.mem_ofBytes hx).2.1.trans_le (habove y hy)
  · exact (List.mem_append.mp hx).elim (hm.2 x) (hn.2 x)

end

/-! ### The four images together -/

/-- The stored bytes of a constructed state: ROM and the three RAM buffers, each from its address on (R41). -/
def loadedMem (rom cram iram zram : List Byte) : Memory :=
  Memory.ofBytes 0x0000 rom
    ++ (Memory.ofBytes 0xA000 cram ++ (Memory.ofBytes 0xC000 iram ++ Memory.ofBytes 0xFF80 zram))

section
variable {rom cram iram zram : List Byte}

/-- The zero page lies above internal RAM. -/
theorem keysFrom_zram (hi : iram.length = 8192) :
    keysFrom (0xC000 + iram.length) (Memory.ofBytes 0xFF80 zram) :=
  keysFrom_ofBytes (by omega) zram

/-- Internal RAM and the zero page lie above cartridge RAM. -/
theorem keysFrom_iram (hc : cram.length = 8192) :
    keysFrom (0xA000 + cram.length) (Memory.ofBytes 0xC000 iram ++ Memory.ofBytes 0xFF80 zram) :=
  (keysFrom_ofBytes (by omega) iram).append (keysFrom_ofBytes (by omega) zram)

/-- The three RAM buffers lie above ROM. -/
theorem keysFrom_cram (hr : rom.length = 32768) :
    keysFrom (0x0000 + rom.length)
      (Memory.ofBytes 0xA000 cram ++ (Memory.ofBytes 0xC000 iram ++ Memory.ofBytes 0xFF80 zram)) :=
  (keysFrom_ofBytes (by omega) cram).append
    ((keysFrom_ofBytes (by omega) iram).append (keysFrom_ofBytes (by omega) zram))

theorem memOk_loadedMem (hr : rom.length = 32768) (hc : cram.length = 8192) (hi : iram.length = 8192)
    (hz : zram.length = 127) : memOk (loadedMem rom cram iram zram) := by
  have hzram : memOk (Memory.ofBytes 0xFF80 zram) := memOk_ofBytes (by omega)
  have hiram := memOk_ofBytes_append (memOk_ofBytes (by omega)) hzram (keysFrom_zram hi)
  have hcram := memOk_ofBytes_append (memOk_ofBytes (by omega)) hiram (keysFrom_iram hc)
  exact memOk_ofBytes_append (memOk_ofBytes (by omega)) hcram (keysFrom_cram hr)

theorem read_loadedMem_rom (hr : rom.length = 32768) {k : Nat} (hk : k < 32768) :
    Memory.read (loadedMem rom cram iram zram) k = rom.getD k 0#8 := by
  have hread := read_ofBytes_append_inside (keysFrom_cram (cram := cram) (iram := iram) (zram := zram) hr)
    (hk.trans_eq hr.symm)
  rwa [Nat.zero_add] at hread

theorem read_loadedMem_cram (hr : rom.length = 32768) (hc : cram.length = 8192) {k : Nat} (hk : k < 8192) :
    Memory.read (loadedMem rom cram iram zram) (0xA000 + k) = cram.getD k 0#8 := by
  rw [loadedMem, read_ofBytes_append_above (by omega)]
  exact read_ofBytes_append_inside (keysFrom_iram hc) (hk.trans_eq hc.symm)

theorem read_loadedMem_iram (hr : rom.length = 32768) (hc : cram.length = 8192) (hi : iram.length = 8192)
    {k : Nat} (hk : k < 8192) :
    Memory.read (loadedMem rom cram iram zram) (0xC000 + k) = iram.getD k 0#8 := by
  rw [loadedMem, read_ofBytes_append_above (by omega), read_ofBytes_append_above (by omega)]
  exact read_ofBytes_append_inside (keysFrom_zram hi) (hk.trans_eq hi.symm)

theorem read_loadedMem_zram (hr : rom.length = 32768) (hc : cram.length = 8192) (hi : iram.length = 8192)
    (k : Nat) : Memory.read (loadedMem rom cram iram zram) (0xFF80 + k) = zram.getD k 0#8 := by
  rw [loadedMem, read_ofBytes_append_above (by omega), read_ofBytes_append_above (by omega),
    read_ofBytes_append_above (by omega)]
  exact Memory.read_ofBytes 0xFF80 zram k

end

/-! ### The constructed state -/

/-- The state that construction answers: the reset state with SP, the overlay and the stored bytes as
supplied (R250). -/
def constructed (boot : Option (List Byte)) (cart : List Byte) (cram : Vector Byte 8192)
    (iram : Vector Byte 8192) (zram : Vector Byte 127) (sp : Word) : State :=
  { State.reset with
    sp := sp
    overlayEnabled := boot.isSome
    boot := boot.map (Memory.ofBytes 0)
    mem := loadedMem (cart.take 32768) cram.toList iram.toList zram.toList }

section
variable {boot : Option (List Byte)} {cart : List Byte} {cram iram : Vector Byte 8192}
  {zram : Vector Byte 127} {sp : Word}

/-- What construction answers, it answers for images of the right sizes, with `constructed` (R222, R250). -/
theorem construct_eq_next {t : State} (h : construct boot cart cram iram zram sp = .next t) :
    (∀ image, boot = some image → image.length = 256) ∧ 32768 ≤ cart.length ∧
      t = constructed boot cart cram iram zram sp := by
  rw [construct] at h
  split_ifs at h with hoverlay hcart
  refine ⟨fun image hsome => ?_, Nat.le_of_not_lt hcart, (Host.Outcome.next.inj h).symm⟩
  by_contra hne
  exact hoverlay (overlaySizeCheck_iff.mpr ⟨image, hsome, hne⟩)

theorem constructed_inv (hboot : ∀ image, boot = some image → image.length = 256)
    (hcart : 32768 ≤ cart.length) : Inv (constructed boot cart cram iram zram sp) where
  mem := memOk_loadedMem (List.length_take_of_le hcart) cram.length_toList iram.length_toList
    zram.length_toList
  boot := by
    intro loaded hloaded
    obtain ⟨image, hsome, rfl⟩ := Option.map_eq_some_iff.mp hloaded
    refine ⟨Memory.wf_ofBytes 0 image, fun x hx => ?_⟩
    have hkey := (Memory.mem_ofBytes hx).2.1
    rwa [hboot image hsome, Nat.zero_add] at hkey
  overlay := fun henabled => Option.isSome_map.trans henabled
  run := by rintro _ ⟨⟩
  cycles := by rintro _ ⟨⟩

/-- A supplied overlay image is what the lowest 256 addresses read (R44, R250). -/
theorem busRead_constructed_overlay {image : List Byte} (hsome : boot = some image) {a : Word}
    (ha : a.toNat ≤ 0x00FF) :
    busRead (constructed boot cart cram iram zram sp) a = image.getD a.toNat 0#8 := by
  subst hsome
  have hread := Memory.read_ofBytes 0 image a.toNat
  rw [Nat.zero_add] at hread
  exact (busRead_shadowed rfl rfl ha).trans hread

end

/-- Settles O57: construction answers `constructed`, whose images and buffers read back. -/
theorem constructedStateHoldsTheImages : Obligations.ConstructedStateHoldsTheImages := by
  intro boot cart cram iram zram sp t h
  obtain ⟨hboot, hcart, rfl⟩ := construct_eq_next h
  have hr : (cart.take 32768).length = 32768 := List.length_take_of_le hcart
  have hc := cram.length_toList
  have hi := iram.length_toList
  refine ⟨constructed_inv hboot hcart, fun r => ?_, rfl, rfl, rfl, rfl, rfl, fun k hk => ?_,
    fun k hk => read_loadedMem_cram hr hc hk, fun k hk => read_loadedMem_iram hr hc hi hk,
    fun k _ => read_loadedMem_zram hr hc hi k, fun image hsome a ha => busRead_constructed_overlay hsome ha⟩
  · cases r <;> rfl
  · calc Memory.read (constructed boot cart cram iram zram sp).mem k
        = (cart.take 32768).getD k 0#8 := read_loadedMem_rom hr hk
      _ = cart.getD k 0#8 := by
        rw [List.getD_eq_getElem?_getD, List.getD_eq_getElem?_getD, List.getElem?_take_of_lt hk]

end Sys2Proof.Machine
